-- ==== Sys2Proof/Word.lean ====
section
/-! DEFINITION. The two word types of the block: the 8-bit datum and the 16-bit CPU address (`00_scope.md` R10). -/
namespace Sys2Proof

/-- The datum of every bus access and the width of A, X, Y, SP and P (R10). -/
abbrev Byte := BitVec 8

/-- A CPU address, the width of PC (R10). -/
abbrev Word := BitVec 16

end Sys2Proof
end

