-- ==== Sys2Proof/Machine/Bits.lean ====
section
/-! DEFINITION. Bit-field, extension and byte-order helpers (`00_scope.md` R13, `20_memory.md` R96). -/
namespace Sys2Proof.Machine

/-- `w[7:0]`. -/
def lo8 (w : Word) : Byte := w.extractLsb' 0 8

/-- `w[15:8]`, the page of an address. -/
def hi8 (w : Word) : Byte := w.extractLsb' 8 8

/-- `{hi, lo}`: `hi * 256 + lo` (R13). -/
def pair (hi lo : Byte) : Word := hi ++ lo

/-- `zext_16(b)` (R13). -/
def zext16 (b : Byte) : Word := b.setWidth 16

/-- `sext_16(b)` (R13). -/
def sext16 (b : Byte) : Word := b.signExtend 16

/-- `b` with bit `n` set to `v`. -/
def setBit (n : Nat) (v : Bool) (b : Byte) : Byte :=
  if v then b ||| (1#8 <<< n) else b &&& ~~~(1#8 <<< n)

/-- The byte 0x00 or 0x01 of a bit. -/
def bitByte (v : Bool) : Byte := if v then 1#8 else 0#8

/-- The bits of `b` in the opposite order (`50_ppu.md` R444). -/
def reverse8 (b : Byte) : Byte := b.reverse

/-- The 8-bit value whose every bit is `v` (`50_ppu.md` R426). -/
def spread8 (v : Bool) : Byte := if v then 0xFF#8 else 0x00#8

end Sys2Proof.Machine
end

