-- ==== Sys2Proof/Syntax/Operand.lean ====
section
/-! DEFINITION. The twelve addressing modes, an instruction's operand in each of them, and the names of the
operations of the opcode table (`00_scope.md` R19, `30_encoding.md` R201, R202, R206). -/
namespace Sys2Proof

/-- The twelve addressing modes (R19). -/
inductive Mode where
  | imp | imm | zp0 | zpx | zpy | rel | abs | abx | aby | ind | izx | izy
  deriving DecidableEq, Repr

/-- An addressing mode with the operand bytes it takes: `b1` as a byte, or `{b2, b1}` as a word (R201, R202). -/
inductive Operand where
  | imp
  | imm (b : Byte)
  | zp0 (b : Byte)
  | zpx (b : Byte)
  | zpy (b : Byte)
  | rel (b : Byte)
  | abs (w : Word)
  | abx (w : Word)
  | aby (w : Word)
  | ind (w : Word)
  | izx (b : Byte)
  | izy (b : Byte)
  deriving DecidableEq, Repr

/-- The mode of an operand. -/
def Operand.mode : Operand → Mode
  | .imp => .imp
  | .imm _ => .imm
  | .zp0 _ => .zp0
  | .zpx _ => .zpx
  | .zpy _ => .zpy
  | .rel _ => .rel
  | .abs _ => .abs
  | .abx _ => .abx
  | .aby _ => .aby
  | .ind _ => .ind
  | .izx _ => .izx
  | .izy _ => .izy

/-- The 56 operations and the catch-all `xxx` (R206, R207). -/
inductive Op where
  | adc | and | asl | bcc | bcs | beq | bit | bmi | bne | bpl | brk | bvc | bvs | clc | cld | cli | clv | cmp | cpx
  | cpy | dec | dex | dey | eor | inc | inx | iny | jmp | jsr | lda | ldx | ldy | lsr | nop | ora | pha | php | pla
  | plp | rol | ror | rti | rts | sbc | sec | sed | sei | sta | stx | sty | tax | tay | tsx | txa | txs | tya | xxx
  deriving DecidableEq, Repr

end Sys2Proof
end

