-- ==== Sys2Proof/Config.lean ====
section
/-! DEFINITION. What an implementation fixes and what the spec leaves open: the record of the spec's scalar
parameters (`00_scope.md` R12) and the free values, which are constants without a body. -/
namespace Sys2Proof

/-- The scalar parameters a model takes as arguments (`00_scope.md` R12). They stand in `State` and no step
changes them, so a theorem about every state is about every setting of them. Their defaults are
`Machine.standardParams`. The `*_INIT` parameters are the contents of the memories of the state a run starts
from. -/
structure Params where
  /-- `FETCH_STEP_DECREMENTS` (R230, D5). -/
  fetchStepDecrements : Bool
  /-- `DMA_SLOT_PERIOD`: ticks per DMA action, 3 or 1 (R485, D21). -/
  dmaSlotPeriod : Nat
  /-- `SPRITE_EVAL_OFFSET` (R440, D42). -/
  spriteEvalOffset : Nat
  /-- `MAPPER_TICK_CYCLE` (R462, D43). -/
  mapperTickCycle : Nat
  /-- `UNDEF_MODE` (`30_encoding.md` R207, D4): the undocumented opcodes with a mode other than the default of the
  opcode table, each with its mode. -/
  undefMode : List (Byte × Mode)
  /-- `UNDEF_CYCLES` (R208, D4): the undocumented opcodes with base cycles other than the default of the opcode
  table, each with its count. -/
  undefCycles : List (Byte × Nat)
  deriving DecidableEq, Repr

/-- FREE VALUE. The byte a read returns when a bank select addresses beyond the PRG or CHR image: "one
unconstrained byte per such read" (`93_implementation_defined.md` U3), applied to the count of such reads made so
far. Log entry 3. -/
opaque Config.freeByte : Nat → Byte

/-- FREE VALUE. `COLOUR_TABLE`: 64 RGBA values, a parameter without a default (`50_ppu.md` R454, D44, U8). DESIGN
CHOICE: an RGBA value is 32 bits wide; the spec gives it no width. Log entry 4. -/
opaque Config.colourTable : BitVec 6 → BitVec 32

end Sys2Proof
end

