-- ==== Sys2Proof/Machine/Parameters.lean ====
section
/-! DEFINITION. The default values of the spec's scalar parameters (`00_scope.md` R12). -/
namespace Sys2Proof.Machine

/-- The defaults of R12: `FETCH_STEP_DECREMENTS` false (D5), `DMA_SLOT_PERIOD` 3 (D21), `SPRITE_EVAL_OFFSET` 1
(D42), `MAPPER_TICK_CYCLE` 260 (D43), `UNDEF_MODE` and `UNDEF_CYCLES` as the opcode table has them (D4). -/
def standardParams : Params :=
  { fetchStepDecrements := false, dmaSlotPeriod := 3, spriteEvalOffset := 1, mapperTickCycle := 260,
    undefMode := [], undefCycles := [] }

end Sys2Proof.Machine
end

