-- ==== Sys2Proof/Syntax.lean ====
section
/-! DEFINITION. The instructions: one constructor per operation of the opcode table (`30_encoding.md` R206, R207),
carrying the operand of its row's addressing mode. An operation whose only rows are implied carries none; the 105
rows of the catch-all are the constructor `xxx`, which carries its opcode byte. -/
namespace Sys2Proof

/-- An instruction: every row of `spec/opcode_table.json` is a constructor with an operand of the row's mode. -/
inductive Instr where
  -- load, store, transfer (`41_load_store_transfer.md`)
  /-- LDA (R261). -/
  | lda (o : Operand)
  /-- LDX (R262). -/
  | ldx (o : Operand)
  /-- LDY (R263). -/
  | ldy (o : Operand)
  /-- STA (R264). -/
  | sta (o : Operand)
  /-- STX (R265). -/
  | stx (o : Operand)
  /-- STY (R266). -/
  | sty (o : Operand)
  /-- TAX (R267). -/
  | tax
  /-- TAY (R268). -/
  | tay
  /-- TXA (R269). -/
  | txa
  /-- TYA (R270). -/
  | tya
  /-- TSX (R271). -/
  | tsx
  /-- TXS (R272). -/
  | txs
  -- arithmetic, logic, compare, increment, decrement (`42_arithmetic_logic.md`)
  /-- ADC (R291). -/
  | adc (o : Operand)
  /-- SBC (R292). -/
  | sbc (o : Operand)
  /-- AND (R293). -/
  | and (o : Operand)
  /-- ORA (R294). -/
  | ora (o : Operand)
  /-- EOR (R295). -/
  | eor (o : Operand)
  /-- BIT (R296). -/
  | bit (o : Operand)
  /-- CMP (R297). -/
  | cmp (o : Operand)
  /-- CPX (R298). -/
  | cpx (o : Operand)
  /-- CPY (R299). -/
  | cpy (o : Operand)
  /-- INC (R300). -/
  | inc (o : Operand)
  /-- DEC (R301). -/
  | dec (o : Operand)
  /-- INX (R302). -/
  | inx
  /-- INY (R303). -/
  | iny
  /-- DEX (R304). -/
  | dex
  /-- DEY (R305). -/
  | dey
  -- shift and rotate (`43_shift_rotate.md`); the operand `imp` is the accumulator form
  /-- ASL (R321). -/
  | asl (o : Operand)
  /-- LSR (R322). -/
  | lsr (o : Operand)
  /-- ROL (R323). -/
  | rol (o : Operand)
  /-- ROR (R324). -/
  | ror (o : Operand)
  -- jumps, calls, branches (`44_control_transfer.md`)
  /-- JMP (R341). -/
  | jmp (o : Operand)
  /-- JSR (R342). -/
  | jsr (o : Operand)
  /-- RTS (R343). -/
  | rts
  /-- BCC (R345). -/
  | bcc (o : Operand)
  /-- BCS (R346). -/
  | bcs (o : Operand)
  /-- BEQ (R347). -/
  | beq (o : Operand)
  /-- BNE (R348). -/
  | bne (o : Operand)
  /-- BMI (R349). -/
  | bmi (o : Operand)
  /-- BPL (R350). -/
  | bpl (o : Operand)
  /-- BVC (R351). -/
  | bvc (o : Operand)
  /-- BVS (R352). -/
  | bvs (o : Operand)
  -- stack, flags, system (`45_stack_flags_system.md`)
  /-- PHA (R371). -/
  | pha
  /-- PLA (R373). -/
  | pla
  /-- PHP (R375). -/
  | php
  /-- PLP (R377). -/
  | plp
  /-- CLC (R379). -/
  | clc
  /-- SEC (R380). -/
  | sec
  /-- CLI (R381). -/
  | cli
  /-- SEI (R382). -/
  | sei
  /-- CLD (R383). -/
  | cld
  /-- SED (R384). -/
  | sed
  /-- CLV (R385). -/
  | clv
  /-- BRK (R386). -/
  | brk
  /-- RTI (R387). -/
  | rti
  /-- NOP (R390). -/
  | nop
  /-- XXX (R392): one of the 105 undocumented opcode bytes, with the operand of its table entry's mode
  (`UNDEF_MODE`, by default implied). -/
  | xxx (opcode : Byte) (o : Operand)
  deriving DecidableEq, Repr

/-- The operation of an instruction. -/
def Instr.op : Instr → Op
  | .lda _ => .lda
  | .ldx _ => .ldx
  | .ldy _ => .ldy
  | .sta _ => .sta
  | .stx _ => .stx
  | .sty _ => .sty
  | .tax => .tax
  | .tay => .tay
  | .txa => .txa
  | .tya => .tya
  | .tsx => .tsx
  | .txs => .txs
  | .adc _ => .adc
  | .sbc _ => .sbc
  | .and _ => .and
  | .ora _ => .ora
  | .eor _ => .eor
  | .bit _ => .bit
  | .cmp _ => .cmp
  | .cpx _ => .cpx
  | .cpy _ => .cpy
  | .inc _ => .inc
  | .dec _ => .dec
  | .inx => .inx
  | .iny => .iny
  | .dex => .dex
  | .dey => .dey
  | .asl _ => .asl
  | .lsr _ => .lsr
  | .rol _ => .rol
  | .ror _ => .ror
  | .jmp _ => .jmp
  | .jsr _ => .jsr
  | .rts => .rts
  | .bcc _ => .bcc
  | .bcs _ => .bcs
  | .beq _ => .beq
  | .bne _ => .bne
  | .bmi _ => .bmi
  | .bpl _ => .bpl
  | .bvc _ => .bvc
  | .bvs _ => .bvs
  | .pha => .pha
  | .pla => .pla
  | .php => .php
  | .plp => .plp
  | .clc => .clc
  | .sec => .sec
  | .cli => .cli
  | .sei => .sei
  | .cld => .cld
  | .sed => .sed
  | .clv => .clv
  | .brk => .brk
  | .rti => .rti
  | .nop => .nop
  | .xxx _ _ => .xxx

/-- The operand of an instruction; `imp` where its constructor carries none. -/
def Instr.operand : Instr → Operand
  | .lda o => o
  | .ldx o => o
  | .ldy o => o
  | .sta o => o
  | .stx o => o
  | .sty o => o
  | .tax => .imp
  | .tay => .imp
  | .txa => .imp
  | .tya => .imp
  | .tsx => .imp
  | .txs => .imp
  | .adc o => o
  | .sbc o => o
  | .and o => o
  | .ora o => o
  | .eor o => o
  | .bit o => o
  | .cmp o => o
  | .cpx o => o
  | .cpy o => o
  | .inc o => o
  | .dec o => o
  | .inx => .imp
  | .iny => .imp
  | .dex => .imp
  | .dey => .imp
  | .asl o => o
  | .lsr o => o
  | .rol o => o
  | .ror o => o
  | .jmp o => o
  | .jsr o => o
  | .rts => .imp
  | .bcc o => o
  | .bcs o => o
  | .beq o => o
  | .bne o => o
  | .bmi o => o
  | .bpl o => o
  | .bvc o => o
  | .bvs o => o
  | .pha => .imp
  | .pla => .imp
  | .php => .imp
  | .plp => .imp
  | .clc => .imp
  | .sec => .imp
  | .cli => .imp
  | .sei => .imp
  | .cld => .imp
  | .sed => .imp
  | .clv => .imp
  | .brk => .imp
  | .rti => .imp
  | .nop => .imp
  | .xxx _ o => o

/-- The instruction of an operation, an opcode byte (kept by `xxx` alone) and an operand. -/
def Op.instr (op : Op) (opcode : Byte) (o : Operand) : Instr :=
  match op with
  | .lda => .lda o
  | .ldx => .ldx o
  | .ldy => .ldy o
  | .sta => .sta o
  | .stx => .stx o
  | .sty => .sty o
  | .tax => .tax
  | .tay => .tay
  | .txa => .txa
  | .tya => .tya
  | .tsx => .tsx
  | .txs => .txs
  | .adc => .adc o
  | .sbc => .sbc o
  | .and => .and o
  | .ora => .ora o
  | .eor => .eor o
  | .bit => .bit o
  | .cmp => .cmp o
  | .cpx => .cpx o
  | .cpy => .cpy o
  | .inc => .inc o
  | .dec => .dec o
  | .inx => .inx
  | .iny => .iny
  | .dex => .dex
  | .dey => .dey
  | .asl => .asl o
  | .lsr => .lsr o
  | .rol => .rol o
  | .ror => .ror o
  | .jmp => .jmp o
  | .jsr => .jsr o
  | .rts => .rts
  | .bcc => .bcc o
  | .bcs => .bcs o
  | .beq => .beq o
  | .bne => .bne o
  | .bmi => .bmi o
  | .bpl => .bpl o
  | .bvc => .bvc o
  | .bvs => .bvs o
  | .pha => .pha
  | .pla => .pla
  | .php => .php
  | .plp => .plp
  | .clc => .clc
  | .sec => .sec
  | .cli => .cli
  | .sei => .sei
  | .cld => .cld
  | .sed => .sed
  | .clv => .clv
  | .brk => .brk
  | .rti => .rti
  | .nop => .nop
  | .xxx => .xxx opcode o

end Sys2Proof
end

