-- ==== Sys2Proof/Decode.lean ====
section
/-! DEFINITION. The opcode table, the decoder, which is total on any bytes, and the encoder
(`30_encoding.md`). -/
namespace Sys2Proof
open Sys2Proof.Machine

/-- The length in bytes of an instruction of a mode (`30_encoding.md` R201). -/
def Mode.length : Mode → Nat
  | .imp => 1
  | .imm | .zp0 | .zpx | .zpy | .rel | .izx | .izy => 2
  | .abs | .abx | .aby | .ind => 3

/-- Operand assembly: the operand of a mode from the bytes after the opcode, `{b2, b1}` low byte first
(`30_encoding.md` R202). -/
def Operand.ofBytes (m : Mode) (b1 b2 : Byte) : Operand :=
  match m with
  | .imp => .imp
  | .imm => .imm b1
  | .zp0 => .zp0 b1
  | .zpx => .zpx b1
  | .zpy => .zpy b1
  | .rel => .rel b1
  | .abs => .abs (pair b2 b1)
  | .abx => .abx (pair b2 b1)
  | .aby => .aby (pair b2 b1)
  | .ind => .ind (pair b2 b1)
  | .izx => .izx b1
  | .izy => .izy b1

/-- The operand bytes in address order (`30_encoding.md` R201). -/
def Operand.bytes : Operand → List Byte
  | .imp => []
  | .imm b | .zp0 b | .zpx b | .zpy b | .rel b | .izx b | .izy b => [b]
  | .abs w | .abx w | .aby w | .ind w => [lo8 w, hi8 w]

/-- An entry of the 256-entry table: `(operation, addressing mode, base cycles)` (`10_state.md` R30). -/
structure TableEntry where
  op : Op
  mode : Mode
  base : Nat
  deriving DecidableEq, Repr

/-- Row 0x of the matrix of `30_encoding.md` R209. -/
def tableRow0 : List TableEntry := [
  ⟨.brk, .imp, 7⟩, ⟨.ora, .izx, 6⟩, ⟨.xxx, .imp, 2⟩, ⟨.xxx, .imp, 8⟩,
  ⟨.xxx, .imp, 3⟩, ⟨.ora, .zp0, 3⟩, ⟨.asl, .zp0, 5⟩, ⟨.xxx, .imp, 5⟩,
  ⟨.php, .imp, 3⟩, ⟨.ora, .imm, 2⟩, ⟨.asl, .imp, 2⟩, ⟨.xxx, .imp, 2⟩,
  ⟨.xxx, .imp, 4⟩, ⟨.ora, .abs, 4⟩, ⟨.asl, .abs, 6⟩, ⟨.xxx, .imp, 6⟩]

/-- Row 1x of the matrix of `30_encoding.md` R209. -/
def tableRow1 : List TableEntry := [
  ⟨.bpl, .rel, 2⟩, ⟨.ora, .izy, 5⟩, ⟨.xxx, .imp, 2⟩, ⟨.xxx, .imp, 8⟩,
  ⟨.xxx, .imp, 4⟩, ⟨.ora, .zpx, 4⟩, ⟨.asl, .zpx, 6⟩, ⟨.xxx, .imp, 6⟩,
  ⟨.clc, .imp, 2⟩, ⟨.ora, .aby, 4⟩, ⟨.xxx, .imp, 2⟩, ⟨.xxx, .imp, 7⟩,
  ⟨.xxx, .imp, 4⟩, ⟨.ora, .abx, 4⟩, ⟨.asl, .abx, 7⟩, ⟨.xxx, .imp, 7⟩]

/-- Row 2x of the matrix of `30_encoding.md` R209. -/
def tableRow2 : List TableEntry := [
  ⟨.jsr, .abs, 6⟩, ⟨.and, .izx, 6⟩, ⟨.xxx, .imp, 2⟩, ⟨.xxx, .imp, 8⟩,
  ⟨.bit, .zp0, 3⟩, ⟨.and, .zp0, 3⟩, ⟨.rol, .zp0, 5⟩, ⟨.xxx, .imp, 5⟩,
  ⟨.plp, .imp, 4⟩, ⟨.and, .imm, 2⟩, ⟨.rol, .imp, 2⟩, ⟨.xxx, .imp, 2⟩,
  ⟨.bit, .abs, 4⟩, ⟨.and, .abs, 4⟩, ⟨.rol, .abs, 6⟩, ⟨.xxx, .imp, 6⟩]

/-- Row 3x of the matrix of `30_encoding.md` R209. -/
def tableRow3 : List TableEntry := [
  ⟨.bmi, .rel, 2⟩, ⟨.and, .izy, 5⟩, ⟨.xxx, .imp, 2⟩, ⟨.xxx, .imp, 8⟩,
  ⟨.xxx, .imp, 4⟩, ⟨.and, .zpx, 4⟩, ⟨.rol, .zpx, 6⟩, ⟨.xxx, .imp, 6⟩,
  ⟨.sec, .imp, 2⟩, ⟨.and, .aby, 4⟩, ⟨.xxx, .imp, 2⟩, ⟨.xxx, .imp, 7⟩,
  ⟨.xxx, .imp, 4⟩, ⟨.and, .abx, 4⟩, ⟨.rol, .abx, 7⟩, ⟨.xxx, .imp, 7⟩]

/-- Row 4x of the matrix of `30_encoding.md` R209. -/
def tableRow4 : List TableEntry := [
  ⟨.rti, .imp, 6⟩, ⟨.eor, .izx, 6⟩, ⟨.xxx, .imp, 2⟩, ⟨.xxx, .imp, 8⟩,
  ⟨.xxx, .imp, 3⟩, ⟨.eor, .zp0, 3⟩, ⟨.lsr, .zp0, 5⟩, ⟨.xxx, .imp, 5⟩,
  ⟨.pha, .imp, 3⟩, ⟨.eor, .imm, 2⟩, ⟨.lsr, .imp, 2⟩, ⟨.xxx, .imp, 2⟩,
  ⟨.jmp, .abs, 3⟩, ⟨.eor, .abs, 4⟩, ⟨.lsr, .abs, 6⟩, ⟨.xxx, .imp, 6⟩]

/-- Row 5x of the matrix of `30_encoding.md` R209. -/
def tableRow5 : List TableEntry := [
  ⟨.bvc, .rel, 2⟩, ⟨.eor, .izy, 5⟩, ⟨.xxx, .imp, 2⟩, ⟨.xxx, .imp, 8⟩,
  ⟨.xxx, .imp, 4⟩, ⟨.eor, .zpx, 4⟩, ⟨.lsr, .zpx, 6⟩, ⟨.xxx, .imp, 6⟩,
  ⟨.cli, .imp, 2⟩, ⟨.eor, .aby, 4⟩, ⟨.xxx, .imp, 2⟩, ⟨.xxx, .imp, 7⟩,
  ⟨.xxx, .imp, 4⟩, ⟨.eor, .abx, 4⟩, ⟨.lsr, .abx, 7⟩, ⟨.xxx, .imp, 7⟩]

/-- Row 6x of the matrix of `30_encoding.md` R209. -/
def tableRow6 : List TableEntry := [
  ⟨.rts, .imp, 6⟩, ⟨.adc, .izx, 6⟩, ⟨.xxx, .imp, 2⟩, ⟨.xxx, .imp, 8⟩,
  ⟨.xxx, .imp, 3⟩, ⟨.adc, .zp0, 3⟩, ⟨.ror, .zp0, 5⟩, ⟨.xxx, .imp, 5⟩,
  ⟨.pla, .imp, 4⟩, ⟨.adc, .imm, 2⟩, ⟨.ror, .imp, 2⟩, ⟨.xxx, .imp, 2⟩,
  ⟨.jmp, .ind, 5⟩, ⟨.adc, .abs, 4⟩, ⟨.ror, .abs, 6⟩, ⟨.xxx, .imp, 6⟩]

/-- Row 7x of the matrix of `30_encoding.md` R209. -/
def tableRow7 : List TableEntry := [
  ⟨.bvs, .rel, 2⟩, ⟨.adc, .izy, 5⟩, ⟨.xxx, .imp, 2⟩, ⟨.xxx, .imp, 8⟩,
  ⟨.xxx, .imp, 4⟩, ⟨.adc, .zpx, 4⟩, ⟨.ror, .zpx, 6⟩, ⟨.xxx, .imp, 6⟩,
  ⟨.sei, .imp, 2⟩, ⟨.adc, .aby, 4⟩, ⟨.xxx, .imp, 2⟩, ⟨.xxx, .imp, 7⟩,
  ⟨.xxx, .imp, 4⟩, ⟨.adc, .abx, 4⟩, ⟨.ror, .abx, 7⟩, ⟨.xxx, .imp, 7⟩]

/-- Row 8x of the matrix of `30_encoding.md` R209. -/
def tableRow8 : List TableEntry := [
  ⟨.xxx, .imp, 2⟩, ⟨.sta, .izx, 6⟩, ⟨.xxx, .imp, 2⟩, ⟨.xxx, .imp, 6⟩,
  ⟨.sty, .zp0, 3⟩, ⟨.sta, .zp0, 3⟩, ⟨.stx, .zp0, 3⟩, ⟨.xxx, .imp, 3⟩,
  ⟨.dey, .imp, 2⟩, ⟨.xxx, .imp, 2⟩, ⟨.txa, .imp, 2⟩, ⟨.xxx, .imp, 2⟩,
  ⟨.sty, .abs, 4⟩, ⟨.sta, .abs, 4⟩, ⟨.stx, .abs, 4⟩, ⟨.xxx, .imp, 4⟩]

/-- Row 9x of the matrix of `30_encoding.md` R209. -/
def tableRow9 : List TableEntry := [
  ⟨.bcc, .rel, 2⟩, ⟨.sta, .izy, 6⟩, ⟨.xxx, .imp, 2⟩, ⟨.xxx, .imp, 6⟩,
  ⟨.sty, .zpx, 4⟩, ⟨.sta, .zpx, 4⟩, ⟨.stx, .zpy, 4⟩, ⟨.xxx, .imp, 4⟩,
  ⟨.tya, .imp, 2⟩, ⟨.sta, .aby, 5⟩, ⟨.txs, .imp, 2⟩, ⟨.xxx, .imp, 5⟩,
  ⟨.xxx, .imp, 5⟩, ⟨.sta, .abx, 5⟩, ⟨.xxx, .imp, 5⟩, ⟨.xxx, .imp, 5⟩]

/-- Row Ax of the matrix of `30_encoding.md` R209. -/
def tableRowA : List TableEntry := [
  ⟨.ldy, .imm, 2⟩, ⟨.lda, .izx, 6⟩, ⟨.ldx, .imm, 2⟩, ⟨.xxx, .imp, 6⟩,
  ⟨.ldy, .zp0, 3⟩, ⟨.lda, .zp0, 3⟩, ⟨.ldx, .zp0, 3⟩, ⟨.xxx, .imp, 3⟩,
  ⟨.tay, .imp, 2⟩, ⟨.lda, .imm, 2⟩, ⟨.tax, .imp, 2⟩, ⟨.xxx, .imp, 2⟩,
  ⟨.ldy, .abs, 4⟩, ⟨.lda, .abs, 4⟩, ⟨.ldx, .abs, 4⟩, ⟨.xxx, .imp, 4⟩]

/-- Row Bx of the matrix of `30_encoding.md` R209. -/
def tableRowB : List TableEntry := [
  ⟨.bcs, .rel, 2⟩, ⟨.lda, .izy, 5⟩, ⟨.xxx, .imp, 2⟩, ⟨.xxx, .imp, 5⟩,
  ⟨.ldy, .zpx, 4⟩, ⟨.lda, .zpx, 4⟩, ⟨.ldx, .zpy, 4⟩, ⟨.xxx, .imp, 4⟩,
  ⟨.clv, .imp, 2⟩, ⟨.lda, .aby, 4⟩, ⟨.tsx, .imp, 2⟩, ⟨.xxx, .imp, 4⟩,
  ⟨.ldy, .abx, 4⟩, ⟨.lda, .abx, 4⟩, ⟨.ldx, .aby, 4⟩, ⟨.xxx, .imp, 4⟩]

/-- Row Cx of the matrix of `30_encoding.md` R209. -/
def tableRowC : List TableEntry := [
  ⟨.cpy, .imm, 2⟩, ⟨.cmp, .izx, 6⟩, ⟨.xxx, .imp, 2⟩, ⟨.xxx, .imp, 8⟩,
  ⟨.cpy, .zp0, 3⟩, ⟨.cmp, .zp0, 3⟩, ⟨.dec, .zp0, 5⟩, ⟨.xxx, .imp, 5⟩,
  ⟨.iny, .imp, 2⟩, ⟨.cmp, .imm, 2⟩, ⟨.dex, .imp, 2⟩, ⟨.xxx, .imp, 2⟩,
  ⟨.cpy, .abs, 4⟩, ⟨.cmp, .abs, 4⟩, ⟨.dec, .abs, 6⟩, ⟨.xxx, .imp, 6⟩]

/-- Row Dx of the matrix of `30_encoding.md` R209. -/
def tableRowD : List TableEntry := [
  ⟨.bne, .rel, 2⟩, ⟨.cmp, .izy, 5⟩, ⟨.xxx, .imp, 2⟩, ⟨.xxx, .imp, 8⟩,
  ⟨.xxx, .imp, 4⟩, ⟨.cmp, .zpx, 4⟩, ⟨.dec, .zpx, 6⟩, ⟨.xxx, .imp, 6⟩,
  ⟨.cld, .imp, 2⟩, ⟨.cmp, .aby, 4⟩, ⟨.xxx, .imp, 2⟩, ⟨.xxx, .imp, 7⟩,
  ⟨.xxx, .imp, 4⟩, ⟨.cmp, .abx, 4⟩, ⟨.dec, .abx, 7⟩, ⟨.xxx, .imp, 7⟩]

/-- Row Ex of the matrix of `30_encoding.md` R209. -/
def tableRowE : List TableEntry := [
  ⟨.cpx, .imm, 2⟩, ⟨.sbc, .izx, 6⟩, ⟨.xxx, .imp, 2⟩, ⟨.xxx, .imp, 8⟩,
  ⟨.cpx, .zp0, 3⟩, ⟨.sbc, .zp0, 3⟩, ⟨.inc, .zp0, 5⟩, ⟨.xxx, .imp, 5⟩,
  ⟨.inx, .imp, 2⟩, ⟨.sbc, .imm, 2⟩, ⟨.nop, .imp, 2⟩, ⟨.xxx, .imp, 2⟩,
  ⟨.cpx, .abs, 4⟩, ⟨.sbc, .abs, 4⟩, ⟨.inc, .abs, 6⟩, ⟨.xxx, .imp, 6⟩]

/-- Row Fx of the matrix of `30_encoding.md` R209. -/
def tableRowF : List TableEntry := [
  ⟨.beq, .rel, 2⟩, ⟨.sbc, .izy, 5⟩, ⟨.xxx, .imp, 2⟩, ⟨.xxx, .imp, 8⟩,
  ⟨.xxx, .imp, 4⟩, ⟨.sbc, .zpx, 4⟩, ⟨.inc, .zpx, 6⟩, ⟨.xxx, .imp, 6⟩,
  ⟨.sed, .imp, 2⟩, ⟨.sbc, .aby, 4⟩, ⟨.xxx, .imp, 2⟩, ⟨.xxx, .imp, 7⟩,
  ⟨.xxx, .imp, 4⟩, ⟨.sbc, .abx, 4⟩, ⟨.inc, .abx, 7⟩, ⟨.xxx, .imp, 7⟩]

/-- The opcode table (`30_encoding.md` R209). The mode and the base cycles of its `xxx` entries are the parameters
`UNDEF_MODE` and `UNDEF_CYCLES` at their defaults (R207, R208, D4). -/
def opcodeTable : List TableEntry :=
  tableRow0 ++ tableRow1 ++ tableRow2 ++ tableRow3 ++
  tableRow4 ++ tableRow5 ++ tableRow6 ++ tableRow7 ++
  tableRow8 ++ tableRow9 ++ tableRowA ++ tableRowB ++
  tableRowC ++ tableRowD ++ tableRowE ++ tableRowF

/-- The default entry of an opcode (`30_encoding.md` R209). -/
def tableEntry (opcode : Byte) : TableEntry := opcodeTable.getD opcode.toNat ⟨.xxx, .imp, 2⟩

/-- `TABLE[opcode]` (`30_encoding.md` R203): the default entry, the mode and the base cycles of an undocumented
opcode being those the parameters `UNDEF_MODE` and `UNDEF_CYCLES` give it (R207, R208, D4). -/
def Params.entry (p : Params) (opcode : Byte) : TableEntry :=
  let e := tableEntry opcode
  if e.op = .xxx then
    { op := .xxx, mode := (p.undefMode.lookup opcode).getD e.mode, base := (p.undefCycles.lookup opcode).getD e.base }
  else e

/-- The instruction of an opcode byte and the two bytes after it: total, no encoding is illegal
(`30_encoding.md` R203, R212). A byte beyond the instruction's length is not looked at. -/
def decodeBytes (p : Params) (opcode b1 b2 : Byte) : Instr :=
  (p.entry opcode).op.instr opcode (Operand.ofBytes (p.entry opcode).mode b1 b2)

/-- Why a list of bytes is not an instruction. Every opcode byte is one, so only a list that ends too soon is
refused. -/
inductive DecodeError where
  /-- There is no opcode byte. -/
  | empty
  /-- The list ends before the operand bytes that the opcode's mode takes. -/
  | truncated (opcode : Byte)
  deriving DecidableEq, Repr

/-- The instruction at the head of a list of bytes, and the rest of the list. -/
def decode (p : Params) : List Byte → Except DecodeError (Instr × List Byte)
  | [] => .error .empty
  | opcode :: rest =>
    match (p.entry opcode).mode.length, rest with
    | 1, rest => .ok (decodeBytes p opcode 0#8 0#8, rest)
    | 2, b1 :: rest => .ok (decodeBytes p opcode b1 0#8, rest)
    | 3, b1 :: b2 :: rest => .ok (decodeBytes p opcode b1 b2, rest)
    | _, _ => .error (.truncated opcode)

/-- The documented opcode bytes of an operation with their modes (`30_encoding.md` R206); none for the
catch-all. -/
def Op.opcodes : Op → List (Mode × Byte)
  | .lda => [(.imm, 0xA9#8), (.zp0, 0xA5#8), (.zpx, 0xB5#8), (.abs, 0xAD#8), (.abx, 0xBD#8), (.aby, 0xB9#8), (.izx, 0xA1#8), (.izy, 0xB1#8)]
  | .ldx => [(.imm, 0xA2#8), (.zp0, 0xA6#8), (.zpy, 0xB6#8), (.abs, 0xAE#8), (.aby, 0xBE#8)]
  | .ldy => [(.imm, 0xA0#8), (.zp0, 0xA4#8), (.zpx, 0xB4#8), (.abs, 0xAC#8), (.abx, 0xBC#8)]
  | .sta => [(.zp0, 0x85#8), (.zpx, 0x95#8), (.abs, 0x8D#8), (.abx, 0x9D#8), (.aby, 0x99#8), (.izx, 0x81#8), (.izy, 0x91#8)]
  | .stx => [(.zp0, 0x86#8), (.zpy, 0x96#8), (.abs, 0x8E#8)]
  | .sty => [(.zp0, 0x84#8), (.zpx, 0x94#8), (.abs, 0x8C#8)]
  | .tax => [(.imp, 0xAA#8)]
  | .tay => [(.imp, 0xA8#8)]
  | .txa => [(.imp, 0x8A#8)]
  | .tya => [(.imp, 0x98#8)]
  | .tsx => [(.imp, 0xBA#8)]
  | .txs => [(.imp, 0x9A#8)]
  | .adc => [(.imm, 0x69#8), (.zp0, 0x65#8), (.zpx, 0x75#8), (.abs, 0x6D#8), (.abx, 0x7D#8), (.aby, 0x79#8), (.izx, 0x61#8), (.izy, 0x71#8)]
  | .sbc => [(.imm, 0xE9#8), (.zp0, 0xE5#8), (.zpx, 0xF5#8), (.abs, 0xED#8), (.abx, 0xFD#8), (.aby, 0xF9#8), (.izx, 0xE1#8), (.izy, 0xF1#8)]
  | .and => [(.imm, 0x29#8), (.zp0, 0x25#8), (.zpx, 0x35#8), (.abs, 0x2D#8), (.abx, 0x3D#8), (.aby, 0x39#8), (.izx, 0x21#8), (.izy, 0x31#8)]
  | .ora => [(.imm, 0x09#8), (.zp0, 0x05#8), (.zpx, 0x15#8), (.abs, 0x0D#8), (.abx, 0x1D#8), (.aby, 0x19#8), (.izx, 0x01#8), (.izy, 0x11#8)]
  | .eor => [(.imm, 0x49#8), (.zp0, 0x45#8), (.zpx, 0x55#8), (.abs, 0x4D#8), (.abx, 0x5D#8), (.aby, 0x59#8), (.izx, 0x41#8), (.izy, 0x51#8)]
  | .bit => [(.zp0, 0x24#8), (.abs, 0x2C#8)]
  | .cmp => [(.imm, 0xC9#8), (.zp0, 0xC5#8), (.zpx, 0xD5#8), (.abs, 0xCD#8), (.abx, 0xDD#8), (.aby, 0xD9#8), (.izx, 0xC1#8), (.izy, 0xD1#8)]
  | .cpx => [(.imm, 0xE0#8), (.zp0, 0xE4#8), (.abs, 0xEC#8)]
  | .cpy => [(.imm, 0xC0#8), (.zp0, 0xC4#8), (.abs, 0xCC#8)]
  | .inc => [(.zp0, 0xE6#8), (.zpx, 0xF6#8), (.abs, 0xEE#8), (.abx, 0xFE#8)]
  | .dec => [(.zp0, 0xC6#8), (.zpx, 0xD6#8), (.abs, 0xCE#8), (.abx, 0xDE#8)]
  | .inx => [(.imp, 0xE8#8)]
  | .iny => [(.imp, 0xC8#8)]
  | .dex => [(.imp, 0xCA#8)]
  | .dey => [(.imp, 0x88#8)]
  | .asl => [(.imp, 0x0A#8), (.zp0, 0x06#8), (.zpx, 0x16#8), (.abs, 0x0E#8), (.abx, 0x1E#8)]
  | .lsr => [(.imp, 0x4A#8), (.zp0, 0x46#8), (.zpx, 0x56#8), (.abs, 0x4E#8), (.abx, 0x5E#8)]
  | .rol => [(.imp, 0x2A#8), (.zp0, 0x26#8), (.zpx, 0x36#8), (.abs, 0x2E#8), (.abx, 0x3E#8)]
  | .ror => [(.imp, 0x6A#8), (.zp0, 0x66#8), (.zpx, 0x76#8), (.abs, 0x6E#8), (.abx, 0x7E#8)]
  | .jmp => [(.abs, 0x4C#8), (.ind, 0x6C#8)]
  | .jsr => [(.abs, 0x20#8)]
  | .rts => [(.imp, 0x60#8)]
  | .bcc => [(.rel, 0x90#8)]
  | .bcs => [(.rel, 0xB0#8)]
  | .beq => [(.rel, 0xF0#8)]
  | .bne => [(.rel, 0xD0#8)]
  | .bmi => [(.rel, 0x30#8)]
  | .bpl => [(.rel, 0x10#8)]
  | .bvc => [(.rel, 0x50#8)]
  | .bvs => [(.rel, 0x70#8)]
  | .pha => [(.imp, 0x48#8)]
  | .pla => [(.imp, 0x68#8)]
  | .php => [(.imp, 0x08#8)]
  | .plp => [(.imp, 0x28#8)]
  | .clc => [(.imp, 0x18#8)]
  | .sec => [(.imp, 0x38#8)]
  | .cli => [(.imp, 0x58#8)]
  | .sei => [(.imp, 0x78#8)]
  | .cld => [(.imp, 0xD8#8)]
  | .sed => [(.imp, 0xF8#8)]
  | .clv => [(.imp, 0xB8#8)]
  | .brk => [(.imp, 0x00#8)]
  | .rti => [(.imp, 0x40#8)]
  | .nop => [(.imp, 0xEA#8)]
  | .xxx => []

/-- The opcode byte of an operation in a mode, where `30_encoding.md` R206 has one. -/
def Op.opcode (op : Op) (m : Mode) : Option Byte := op.opcodes.lookup m

/-- The opcode byte of an instruction, where it has one. -/
def Instr.opcode : Instr → Option Byte
  | .xxx b _ => some b
  | i => i.op.opcode i.operand.mode

/-- The bytes of an instruction, in address order; none for an operation in a mode it has no opcode for. -/
def encode (i : Instr) : Option (List Byte) := i.opcode.map fun b => b :: i.operand.bytes

/-- The base cycles of an operation in a mode: the third member of its opcode's table entry
(`30_encoding.md` R203). -/
def baseCycles (op : Op) (m : Mode) : Nat :=
  match op.opcode m with
  | some b => (tableEntry b).base
  | none => 0

/-- The instruction the decoder reads from an instruction whose bits are `w` as `spec/opcode_table.json` numbers
them: bit 0 is the least significant bit of the opcode byte, the operand bytes follow in address order, and every
bit from `nbits` up is 0. The parameters are at their defaults, as the table has them. -/
def decodeTableWord (nbits w : Nat) : Option Instr :=
  let x : BitVec 24 := BitVec.ofNat 24 (w % 2 ^ nbits)
  match decode standardParams [x.extractLsb' 0 8, x.extractLsb' 8 8, x.extractLsb' 16 8] with
  | .ok (i, _) => some i
  | .error _ => none

end Sys2Proof
end

