-- ==== Sys2Proof/Machine/Memory.lean ====
section
/-! DEFINITION. A memory as plain data: a list of (address, byte) cells in one canonical form, addresses strictly
rising and no cell equal to what an unlisted address reads as. Every byte array of the block (work RAM, nametables,
pattern tables, palette, OAM, PRG, CHR, cartridge RAM) is one. -/
namespace Sys2Proof.Machine

/-- The contents of a byte array. -/
abbrev Memory := List Host.Cell

/-- What an unlisted address reads as: the default zero of `RAM_INIT`, `VRAM_INIT`, `PALETTE_INIT`, `OAM_INIT` and
`CART_RAM_INIT` (`00_scope.md` R12; log entry 2). -/
def Memory.unlisted : Byte := 0x00#8

/-- The byte at an address. -/
def Memory.read : Memory → Nat → Byte
  | [], _ => Memory.unlisted
  | (k, v) :: m, a => if a = k then v else Memory.read m a

/-- The memory with byte `v` at address `a`, in canonical form. -/
def Memory.write : Memory → Nat → Byte → Memory
  | [], a, v => if v = Memory.unlisted then [] else [(a, v)]
  | (k, w) :: m, a, v =>
    if a < k then (if v = Memory.unlisted then (k, w) :: m else (a, v) :: (k, w) :: m)
    else if a = k then (if v = Memory.unlisted then m else (a, v) :: m)
    else (k, w) :: Memory.write m a v

/-- Every address is at least `lo`, addresses rise strictly and no cell holds the unlisted value. -/
def Memory.wfFrom (lo : Nat) : Memory → Bool
  | [] => true
  | (k, v) :: m => decide (lo ≤ k) && decide (v ≠ Memory.unlisted) && Memory.wfFrom (k + 1) m

/-- The canonical form. -/
def Memory.wf (m : Memory) : Bool := Memory.wfFrom 0 m

/-- Every listed address is below `size`. -/
def Memory.within (size : Nat) (m : Memory) : Bool := m.all fun c => decide (c.1 < size)

/-- The memory of an image: byte `i` of the list at address `base + i`. -/
def Memory.ofBytes (base : Nat) : List Byte → Memory
  | [] => []
  | v :: l => if v = Memory.unlisted then Memory.ofBytes (base + 1) l else (base, v) :: Memory.ofBytes (base + 1) l

end Sys2Proof.Machine
end

