-- ==== Sys2Proof/Machine/State.lean ====
section
/-! DEFINITION. The whole state of the block as plain data (`10_state.md`), the reasons a step or a host call can
stop, and the state right after a full reset. -/
namespace Sys2Proof.Machine

/-- The CPU: its register file (`10_state.md` R20 to R25) and its transient execution state (R28). -/
structure Cpu where
  /-- `A` (R20). -/
  a : Byte
  /-- `X` (R21). -/
  x : Byte
  /-- `Y` (R22). -/
  y : Byte
  /-- `SP` (R23). -/
  sp : Byte
  /-- `PC` (R24). -/
  pc : Word
  /-- `P`: C Z I D B U V N from bit 0 up (R25). -/
  p : Byte
  /-- `opcode` (R28). -/
  opcode : Byte
  /-- `addr_abs` (R28). -/
  addrAbs : Word
  /-- `addr_rel` (R28). -/
  addrRel : Word
  /-- `fetched` (R28). -/
  fetched : Byte
  /-- `cycles`, the remaining-cycles counter (R28, R29). -/
  cycles : Byte
  deriving DecidableEq, Repr

/-- The DMA sub-state (`10_state.md` R39). -/
structure Dma where
  /-- `dma_page`. -/
  page : Byte
  /-- `dma_addr`, the cursor. -/
  addr : Byte
  /-- `dma_data`. -/
  data : Byte
  /-- `dma_idle`. -/
  idle : Bool
  /-- `dma_transfer`, in progress. -/
  transfer : Bool
  deriving DecidableEq, Repr

/-- A sprite slot: the copied OAM entry, whose `x` is the remaining-X-delay counter, and the two pattern shifters
(`10_state.md` R50). -/
structure Slot where
  y : Byte
  id : Byte
  attr : Byte
  x : Byte
  lo : Byte
  hi : Byte
  deriving DecidableEq, Repr

/-- The slot no sprite is in: entry bytes 0xFF, shifters 0 (`10_state.md` R50). -/
def emptySlot : Slot := { y := 0xFF, id := 0xFF, attr := 0xFF, x := 0xFF, lo := 0, hi := 0 }

/-- The PPU (`10_state.md` R45 to R50). -/
structure Ppu where
  /-- `ppu_ctrl` (R401). -/
  ctrl : Byte
  /-- `ppu_mask` (R402). -/
  mask : Byte
  /-- `ppu_status.sprite_overflow`, bit 5 (R403). -/
  spriteOverflow : Bool
  /-- `ppu_status.sprite_zero_hit`, bit 6 (R403). -/
  spriteZeroHit : Bool
  /-- `ppu_status.vertical_blank`, bit 7 (R403). -/
  verticalBlank : Bool
  /-- `oam_addr` (R404). -/
  oamAddr : Byte
  /-- `address_latch` (R405). -/
  addressLatch : Bool
  /-- `ppu_data_buffer` (R406). -/
  dataBuffer : Byte
  /-- `v`, the current scroll and address register (R47). -/
  v : BitVec 15
  /-- `t`, the temporary one (R47). -/
  t : BitVec 15
  /-- `fine_x` (R47). -/
  fineX : BitVec 3
  /-- `scanline`, -1 to 260 (R48). -/
  scanline : Int
  /-- `cycle`, 0 to 340 (R48). -/
  cycle : Nat
  /-- `odd_frame` (R48). -/
  oddFrame : Bool
  /-- `frame_complete` (R48). -/
  frameComplete : Bool
  /-- `nmi_pending` (R48). -/
  nmiPending : Bool
  /-- `bg_next_id` (R49). -/
  bgNextId : Byte
  /-- `bg_next_attr` (R49). -/
  bgNextAttr : BitVec 2
  /-- `bg_next_lsb` (R49). -/
  bgNextLsb : Byte
  /-- `bg_next_msb` (R49). -/
  bgNextMsb : Byte
  /-- `bg_pat_lo` (R49). -/
  bgPatLo : BitVec 16
  /-- `bg_pat_hi` (R49). -/
  bgPatHi : BitVec 16
  /-- `bg_att_lo` (R49). -/
  bgAttLo : BitVec 16
  /-- `bg_att_hi` (R49). -/
  bgAttHi : BitVec 16
  /-- `spr_count`, 0 to 8 (R50). -/
  sprCount : Nat
  /-- The eight slots `spr[s]`, `spr_lo[s]`, `spr_hi[s]` (R50). -/
  slots : List Slot
  /-- `spr0_possible` (R50). -/
  spr0Possible : Bool
  /-- `spr0_rendering` (R50). -/
  spr0Rendering : Bool
  /-- `NT[0]`, 1024 bytes (R45). -/
  nt0 : Memory
  /-- `NT[1]`, 1024 bytes (R45). -/
  nt1 : Memory
  /-- `PAL`, 32 bytes (R45). -/
  pal : Memory
  /-- `OAM`, 256 bytes (R45). -/
  oam : Memory
  /-- `PT[0]`, 4096 bytes (R45). -/
  pt0 : Memory
  /-- `PT[1]`, 4096 bytes (R45). -/
  pt1 : Memory
  deriving DecidableEq, Repr

/-- The mirroring mode a mapper reports (`10_state.md` R61). -/
inductive Mirroring where
  | hardware | horizontal | vertical | onescreenLo | onescreenHi
  deriving DecidableEq, Repr

/-- `HW_MIRROR`, the header-derived mirroring (`10_state.md` R61). -/
inductive HwMirror where
  | horizontal | vertical
  deriving DecidableEq, Repr

/-- The registers of variant 1 (`21_cartridge_mappers.md` R160). -/
structure SerialMapper where
  load : BitVec 5
  loadCount : Nat
  control : BitVec 5
  chrLo : BitVec 5
  chrHi : BitVec 5
  prg : BitVec 4
  mirror : Mirroring
  /-- `CRAM`, 8192 bytes. -/
  cram : Memory
  deriving DecidableEq, Repr

/-- The registers of variant 4 (`21_cartridge_mappers.md` R180); `r0` to `r7` are `R[0..7]`. -/
structure TargetMapper where
  r0 : Byte
  r1 : Byte
  r2 : Byte
  r3 : Byte
  r4 : Byte
  r5 : Byte
  r6 : Byte
  r7 : Byte
  target : BitVec 3
  prgMode : Bool
  chrInv : Bool
  mirror : Mirroring
  irqActive : Bool
  irqEnable : Bool
  irqCounter : Byte
  irqReload : Byte
  /-- `CRAM`, 8192 bytes. -/
  cram : Memory
  deriving DecidableEq, Repr

/-- The selected mapper with the registers of its variant (`10_state.md` R62): the closed set of six
(`21_cartridge_mappers.md` R142). -/
inductive Mapper where
  /-- Id 0 (R150): no registers. -/
  | fixed
  /-- Id 1 (R160). -/
  | serial (m : SerialMapper)
  /-- Id 2 (R170): `prg_lo`. -/
  | lowBank (prgLo : BitVec 4)
  /-- Id 3 (R174): `chr_sel`. -/
  | chrBank (chrSel : BitVec 2)
  /-- Id 4 (R180). -/
  | target (m : TargetMapper)
  /-- Id 66 (R188): `chr_sel`, `prg_sel`. -/
  | combined (chrSel prgSel : BitVec 2)
  deriving DecidableEq, Repr

/-- The cartridge (`00_scope.md` R11, `10_state.md` R60 to R62). -/
structure Cartridge where
  /-- `PRG_BANKS`. -/
  prgBanks : Nat
  /-- `CHR_BANKS`; 0 means 8 KiB of character RAM. -/
  chrBanks : Nat
  /-- `HW_MIRROR`. -/
  hwMirror : HwMirror
  /-- `PRG[0 .. PRG_BANKS*16384-1]`. -/
  prg : Memory
  /-- `CHR[0 .. max(CHR_BANKS,1)*8192-1]`. -/
  chr : Memory
  mapper : Mapper
  deriving DecidableEq, Repr

/-- An emitted pixel: `Sink(x, y, rgba)` with the 6-bit colour index in place of the RGBA value it selects
(`50_ppu.md` R454, R455, `93_implementation_defined.md` U8). -/
structure Pixel where
  x : Nat
  y : Nat
  colour : BitVec 6
  deriving DecidableEq, Repr

/-- The whole state of the block. -/
structure State where
  cpu : Cpu
  /-- `RAM[0..2047]` (`10_state.md` R35). -/
  ram : Memory
  /-- `controller[0]`, a host input (R36). -/
  controller0 : Byte
  /-- `controller[1]`, a host input (R36). -/
  controller1 : Byte
  /-- `controller_state[0]` (R37). -/
  latch0 : Byte
  /-- `controller_state[1]` (R37). -/
  latch1 : Byte
  /-- `clock_counter`, unbounded (R38). -/
  clock : Nat
  dma : Dma
  ppu : Ppu
  cart : Cartridge
  /-- The scalar parameters of `00_scope.md` R12; no step changes them. -/
  params : Params
  /-- `render_enable`, a host input (`51_bus_clock_dma.md` R502). -/
  renderEnable : Bool
  /-- The output port of the pixel sink: the pixel the last tick emitted, if it emitted one (R455, R505). -/
  sink : Option Pixel
  /-- The model's own field: how many reads beyond a cartridge image have been made (log entry 3). -/
  freeIndex : Nat
  deriving DecidableEq, Repr

/-- The reasons a step stops with a fault. There is none, so nobody raises one and this is safe: "No behaviour of
this block is treated as `fault` or `stuck`" (`93_implementation_defined.md`; `60_exceptions.md` R521). -/
inductive Fault where
  deriving DecidableEq, Repr

/-- The reasons a step or a host call is refused. -/
inductive Refusal where
  /-- Raised by an arm of `exec` for an instruction that has no meaning yet; no arm does. Safe. -/
  | notModelled (mnemonic : String)
  /-- Raised by the host call that installs a cartridge, when the cartridge is not one U18 allows
  (`93_implementation_defined.md`: "`refuse`"); no step raises it. Safe. -/
  | cartridgeRejected
  deriving DecidableEq, Repr

/-- What a step or a meaning answers. -/
abbrev Result := Host.Outcome State Fault Refusal

/-- The CPU after `reset()` with the reset vector `vector` (`10_state.md` R71). -/
def Cpu.atReset (vector : Word) : Cpu :=
  { a := 0x00, x := 0x00, y := 0x00, sp := 0xFD, pc := vector, p := 0x20, opcode := 0, addrAbs := 0, addrRel := 0,
    fetched := 0, cycles := 8 }

/-- The DMA engine after reset (`10_state.md` R72). -/
def Dma.atReset : Dma := { page := 0, addr := 0, data := 0, idle := true, transfer := false }

/-- The PPU after reset with its memories empty (`10_state.md` R73, `50_ppu.md` R470, log entry 2). -/
def Ppu.atReset : Ppu :=
  { ctrl := 0, mask := 0, spriteOverflow := false, spriteZeroHit := false, verticalBlank := false, oamAddr := 0,
    addressLatch := false, dataBuffer := 0, v := 0, t := 0, fineX := 0, scanline := 0, cycle := 0,
    oddFrame := false, frameComplete := false, nmiPending := false, bgNextId := 0, bgNextAttr := 0,
    bgNextLsb := 0, bgNextMsb := 0, bgPatLo := 0, bgPatHi := 0, bgAttLo := 0, bgAttHi := 0, sprCount := 0,
    slots := [emptySlot, emptySlot, emptySlot, emptySlot, emptySlot, emptySlot, emptySlot, emptySlot],
    spr0Possible := false, spr0Rendering := false, nt0 := [], nt1 := [], pal := [], oam := [], pt0 := [],
    pt1 := [] }

/-- The cartridge of the reset state: variant 0, one program bank, character RAM, horizontal mirroring, every byte
of its images zero (DESIGN CHOICE, log entry 1: the spec names no cartridge). -/
def Cartridge.blank : Cartridge :=
  { prgBanks := 1, chrBanks := 0, hwMirror := .horizontal, prg := [], chr := [], mapper := .fixed }

/-- The machine right after the full reset (`70_reset_and_hazards.md` R561, R562) with the blank cartridge
installed, whose reset vector bytes are both zero. -/
def State.reset : State :=
  { cpu := Cpu.atReset 0x0000, ram := [], controller0 := 0, controller1 := 0, latch0 := 0, latch1 := 0, clock := 0,
    dma := Dma.atReset, ppu := Ppu.atReset, cart := Cartridge.blank, params := standardParams,
    renderEnable := false, sink := none, freeIndex := 0 }

end Sys2Proof.Machine
end

