-- ==== Sys2Proof/Machine/Registers.lean ====
section
/-! DEFINITION. The one place each piece of state is written from: one update per CPU register and per component.
Nothing is hard-wired in the register file (`10_state.md` R20 to R25); what forces bit 5 of P stands at the rules
that write P. -/
namespace Sys2Proof.Machine

def State.setCpu (c : Cpu) (s : State) : State := { s with cpu := c }
def State.setRam (m : Memory) (s : State) : State := { s with ram := m }
def State.setController0 (b : Byte) (s : State) : State := { s with controller0 := b }
def State.setController1 (b : Byte) (s : State) : State := { s with controller1 := b }
def State.setLatch0 (b : Byte) (s : State) : State := { s with latch0 := b }
def State.setLatch1 (b : Byte) (s : State) : State := { s with latch1 := b }
def State.setClock (n : Nat) (s : State) : State := { s with clock := n }
def State.setDma (d : Dma) (s : State) : State := { s with dma := d }
def State.setPpu (p : Ppu) (s : State) : State := { s with ppu := p }
def State.setCart (c : Cartridge) (s : State) : State := { s with cart := c }
def State.setRenderEnable (b : Bool) (s : State) : State := { s with renderEnable := b }
def State.setSink (p : Option Pixel) (s : State) : State := { s with sink := p }
def State.setFreeIndex (n : Nat) (s : State) : State := { s with freeIndex := n }

/-- The mapper replaced, the rest of the cartridge kept. -/
def State.setMapper (m : Mapper) (s : State) : State := s.setCart { s.cart with mapper := m }

def State.setA (b : Byte) (s : State) : State := s.setCpu { s.cpu with a := b }
def State.setX (b : Byte) (s : State) : State := s.setCpu { s.cpu with x := b }
def State.setY (b : Byte) (s : State) : State := s.setCpu { s.cpu with y := b }
def State.setSp (b : Byte) (s : State) : State := s.setCpu { s.cpu with sp := b }
def State.setPc (w : Word) (s : State) : State := s.setCpu { s.cpu with pc := w }
def State.setP (b : Byte) (s : State) : State := s.setCpu { s.cpu with p := b }
def State.setOpcode (b : Byte) (s : State) : State := s.setCpu { s.cpu with opcode := b }
def State.setAddrAbs (w : Word) (s : State) : State := s.setCpu { s.cpu with addrAbs := w }
def State.setAddrRel (w : Word) (s : State) : State := s.setCpu { s.cpu with addrRel := w }
def State.setFetched (b : Byte) (s : State) : State := s.setCpu { s.cpu with fetched := b }
def State.setCycles (b : Byte) (s : State) : State := s.setCpu { s.cpu with cycles := b }

end Sys2Proof.Machine
end

