-- ==== Sys2Proof/Machine/Flags.lean ====
section
/-! DEFINITION. The status flags and every flag computation (`10_state.md` R25, R26, `42_arithmetic_logic.md`,
`43_shift_rotate.md`). -/
namespace Sys2Proof.Machine

/-- The eight flags of P, in the order of their bits (`10_state.md` R25). -/
inductive Flag where
  | c | z | i | d | b | u | v | n
  deriving DecidableEq, Repr

/-- The bit of P a flag stands in (`10_state.md` R25, D1). -/
def Flag.bit : Flag → Nat
  | .c => 0
  | .z => 1
  | .i => 2
  | .d => 3
  | .b => 4
  | .u => 5
  | .v => 6
  | .n => 7

/-- A flag of a status byte. -/
def getFlag (f : Flag) (p : Byte) : Bool := p.getLsbD f.bit

/-- A status byte with one flag written. -/
def putFlag (f : Flag) (v : Bool) (p : Byte) : Byte := setBit f.bit v p

/-- A flag of the live P. -/
def State.flag (f : Flag) (s : State) : Bool := getFlag f s.cpu.p

/-- The live P with one flag written. -/
def State.setFlag (f : Flag) (v : Bool) (s : State) : State := s.setP (putFlag f v s.cpu.p)

/-- `setZN(v)` (`41_load_store_transfer.md` R260). -/
def setZN (v : Byte) (s : State) : State := (s.setFlag .z (decide (v = 0x00))).setFlag .n (v.getLsbD 7)

/-- The 16-bit intermediate of ADC and SBC (`42_arithmetic_logic.md` R291). -/
def sum16 (a m : Byte) (carry : Bool) : Word := zext16 a + zext16 m + zext16 (bitByte carry)

/-- The overflow of a binary addition with result `r`: the operands agree in sign and the result disagrees (R291). -/
def overflow (a m r : Byte) : Bool := (~~~(a ^^^ m) &&& (a ^^^ r)).getLsbD 7

/-- The datapath of ADC (R291), which SBC shares with its operand inverted (R292). Whatever P.D holds (R290). -/
def addWithCarry (m : Byte) (s : State) : State :=
  let t := sum16 s.cpu.a m (s.flag .c)
  let r := lo8 t
  (setZN r ((s.setFlag .c (t.getLsbD 8)).setFlag .v (overflow s.cpu.a m r))).setA r

/-- The flags of a compare of register value `r` with `m` (R297). -/
def compareFlags (r m : Byte) (s : State) : State :=
  ((s.setFlag .c (decide (m.toNat ≤ r.toNat))).setFlag .z (decide (r = m))).setFlag .n ((r - m).getLsbD 7)

/-- The flags of BIT with operand `m` (R296). -/
def bitTestFlags (m : Byte) (s : State) : State :=
  ((s.setFlag .z (decide (s.cpu.a &&& m = 0x00))).setFlag .n (m.getLsbD 7)).setFlag .v (m.getLsbD 6)

/-- The result and the carry out of ASL (`43_shift_rotate.md` R321). -/
def shiftLeft (m : Byte) : Byte × Bool := (m <<< 1, m.getLsbD 7)

/-- The result and the carry out of LSR (R322). -/
def shiftRight (m : Byte) : Byte × Bool := (m >>> 1, m.getLsbD 0)

/-- The result and the carry out of ROL with carry in `c` (R323). -/
def rotateLeft (c : Bool) (m : Byte) : Byte × Bool := ((m <<< 1) ||| bitByte c, m.getLsbD 7)

/-- The result and the carry out of ROR with carry in `c` (R324). -/
def rotateRight (c : Bool) (m : Byte) : Byte × Bool := ((bitByte c <<< 7) ||| (m >>> 1), m.getLsbD 0)

end Sys2Proof.Machine
end

