-- ==== Sys2Proof/Machine/CartridgeBus.lean ====
section
/-! DEFINITION. The mapper contract and the cartridge side of both buses (`21_cartridge_mappers.md`). -/
namespace Sys2Proof.Machine

/-- What `cpuMapRead` answers (`21_cartridge_mappers.md` R141). -/
inductive MapRead where
  /-- `None`: not claimed. -/
  | unclaimed
  /-- `Offset(o)`: the byte is `PRG[o]`. -/
  | offset (o : Nat)
  /-- `Produced(d)`: the byte came from mapper-resident RAM. -/
  | produced (d : Byte)
  deriving DecidableEq, Repr

/-- Whether a CPU write was claimed: `Offset` and `Consumed`, or `None` (R141, R146). -/
inductive MapWrite where
  | unclaimed
  | claimed
  deriving DecidableEq, Repr

/-- The size of the PRG image in bytes (R140). -/
def Cartridge.prgSize (c : Cartridge) : Nat := c.prgBanks * 0x4000

/-- The size of the CHR image in bytes (R140). -/
def Cartridge.chrSize (c : Cartridge) : Nat := max c.chrBanks 1 * 0x2000

/-- The offset of variants 0 and 3: one bank is mirrored across the window (R150, R175). -/
def fixedOffset (prgBanks a : Nat) : Nat := a % (if prgBanks > 1 then 0x8000 else 0x4000)

/-- PRG mode of variant 1, `control[3:2]` (R160). -/
def SerialMapper.prgWindowMode (m : SerialMapper) : BitVec 2 := m.control.extractLsb' 2 2

/-- CHR mode of variant 1, `control[4]` (R160). -/
def SerialMapper.chrSplit (m : SerialMapper) : Bool := m.control.getLsbD 4

/-- The 4 KiB CHR select of the low window of variant 1, the first of its three CHR selects (`10_state.md` R62,
R160, R162). The selects are functions of the registers (D61). -/
def SerialMapper.chrSelectLow (m : SerialMapper) : Nat := m.chrLo.toNat

/-- The 4 KiB CHR select of the high window of variant 1, the second (R162). -/
def SerialMapper.chrSelectHigh (m : SerialMapper) : Nat := m.chrHi.toNat

/-- The 8 KiB CHR select of variant 1, the third (R162). -/
def SerialMapper.chrSelectWide (m : SerialMapper) : Nat := m.chrLo.toNat / 2

/-- The 16 KiB PRG select of the window at 0x8000 of variant 1, the first of its three PRG selects (`10_state.md`
R62, R161): the first bank in mode 2, `prg` in mode 3. -/
def SerialMapper.prgSelectLow (m : SerialMapper) : Nat := if m.prgWindowMode = 2 then 0 else m.prg.toNat

/-- The 16 KiB PRG select of the window at 0xC000 of variant 1, the second (R161): `prg` in mode 2, the last bank in
mode 3. -/
def SerialMapper.prgSelectHigh (prgBanks : Nat) (m : SerialMapper) : Nat :=
  if m.prgWindowMode = 2 then m.prg.toNat else prgBanks - 1

/-- The 32 KiB PRG select of variant 1, the third (R161). -/
def SerialMapper.prgSelectWide (m : SerialMapper) : Nat := m.prg.toNat / 2

/-- PRG offset of variant 1 for an address in 0x8000 to 0xFFFF (R161): one 32 KiB window in modes 0 and 1, two of 16
KiB in modes 2 and 3. -/
def SerialMapper.prgOffset (prgBanks : Nat) (m : SerialMapper) (a : Nat) : Nat :=
  if m.prgWindowMode.toNat < 2 then m.prgSelectWide * 0x8000 + a % 0x8000
  else (if a < 0xC000 then m.prgSelectLow else m.prgSelectHigh prgBanks) * 0x4000 + a % 0x4000

/-- CHR offset of variant 1 for an address in 0x0000 to 0x1FFF (R162). -/
def SerialMapper.chrOffset (m : SerialMapper) (a : Nat) : Nat :=
  if m.chrSplit then (if a < 0x1000 then m.chrSelectLow else m.chrSelectHigh) * 0x1000 + a % 0x1000
  else m.chrSelectWide * 0x2000 + a % 0x2000

/-- The mirroring variant 1 selects with the low two bits of `control` (R160, R163). -/
def serialMirroring (sel : BitVec 2) : Mirroring :=
  match sel with
  | 0 => .onescreenLo
  | 1 => .onescreenHi
  | 2 => .vertical
  | _ => .horizontal

/-- A register write of variant 1 in 0x8000 to 0xFFFF (R163). -/
def SerialMapper.write (m : SerialMapper) (a : Word) (v : Byte) : SerialMapper :=
  if v.getLsbD 7 then { m with load := 0, loadCount := 0, control := m.control ||| 0x0C }
  else
    let load := (m.load >>> 1) ||| ((v.setWidth 5 &&& 1) <<< 4)
    if m.loadCount + 1 = 5 then
      let m := { m with load := 0, loadCount := 0 }
      match a.extractLsb' 13 2 with
      | 0 => { m with control := load, mirror := serialMirroring (load.extractLsb' 0 2) }
      | 1 => { m with chrLo := load }
      | 2 => { m with chrHi := load }
      | _ => { m with prg := load.extractLsb' 0 4 }
    else { m with load := load, loadCount := m.loadCount + 1 }

/-- `prg_off` of variant 4 for an address in 0x8000 to 0xFFFF (R181): the 8 KiB window `(a >> 13) & 3`. -/
def TargetMapper.prgOffset (prgBanks : Nat) (m : TargetMapper) (a : Nat) : Nat :=
  let last := prgBanks * 2 - 1
  let bank6 := m.r6.toNat % 64
  let bank7 := m.r7.toNat % 64
  let bank :=
    if a < 0xA000 then (if m.prgMode then last - 1 else bank6)
    else if a < 0xC000 then bank7
    else if a < 0xE000 then (if m.prgMode then bank6 else last - 1)
    else last
  bank * 0x2000 + a % 0x2000

/-- The 1 KiB bank number of CHR slice `k` of variant 4 in the normal layout (R182, `chr_inv = 0`). -/
def TargetMapper.chrSlice (m : TargetMapper) (k : Nat) : Nat :=
  match k with
  | 0 => m.r0.toNat / 2 * 2
  | 1 => m.r0.toNat / 2 * 2 + 1
  | 2 => m.r1.toNat / 2 * 2
  | 3 => m.r1.toNat / 2 * 2 + 1
  | 4 => m.r2.toNat
  | 5 => m.r3.toNat
  | 6 => m.r4.toNat
  | _ => m.r5.toNat

/-- CHR offset of variant 4 for an address in 0x0000 to 0x1FFF (R182): the inverted layout swaps the two halves. -/
def TargetMapper.chrOffset (m : TargetMapper) (a : Nat) : Nat :=
  m.chrSlice (if m.chrInv then (a / 0x400 + 4) % 8 else a / 0x400) * 0x400 + a % 0x400

/-- `R[target] <- v` of variant 4 (R183). -/
def TargetMapper.writeTarget (m : TargetMapper) (v : Byte) : TargetMapper :=
  match m.target with
  | 0 => { m with r0 := v }
  | 1 => { m with r1 := v }
  | 2 => { m with r2 := v }
  | 3 => { m with r3 := v }
  | 4 => { m with r4 := v }
  | 5 => { m with r5 := v }
  | 6 => { m with r6 := v }
  | _ => { m with r7 := v }

/-- A register write of variant 4 in 0x8000 to 0xFFFF, by `a[14:13]` and `a[0]` (R183). -/
def TargetMapper.write (m : TargetMapper) (a : Word) (v : Byte) : TargetMapper :=
  match a.extractLsb' 13 2, a.getLsbD 0 with
  | 0, false => { m with target := v.extractLsb' 0 3, prgMode := v.getLsbD 6, chrInv := v.getLsbD 7 }
  | 0, true => m.writeTarget v
  | 1, false => { m with mirror := if v.getLsbD 0 then .horizontal else .vertical }
  | 1, true => m
  | 2, false => { m with irqReload := v }
  | 2, true => { m with irqCounter := 0 }
  | _, false => { m with irqEnable := false, irqActive := false }
  | _, true => { m with irqEnable := true }

/-- `scanline()` of variant 4 (R184). -/
def TargetMapper.scanline (m : TargetMapper) : TargetMapper :=
  let counter := if m.irqCounter = 0 then m.irqReload else m.irqCounter - 1
  { m with irqCounter := counter, irqActive := m.irqActive || (decide (counter = 0) && m.irqEnable) }

/-- `cpuMapRead(a)` (R150, R161, R171, R175, R181, R189). -/
def cpuMapRead (c : Cartridge) (a : Word) : MapRead :=
  if 0x8000 ≤ a.toNat then
    match c.mapper with
    | .fixed => .offset (fixedOffset c.prgBanks a.toNat)
    | .serial m => .offset (m.prgOffset c.prgBanks a.toNat)
    | .lowBank prgLo =>
      .offset ((if a.toNat < 0xC000 then prgLo.toNat else c.prgBanks - 1) * 0x4000 + a.toNat % 0x4000)
    | .chrBank _ => .offset (fixedOffset c.prgBanks a.toNat)
    | .target m => .offset (m.prgOffset c.prgBanks a.toNat)
    | .combined _ prgSel => .offset (prgSel.toNat * 0x8000 + a.toNat % 0x8000)
  else if 0x6000 ≤ a.toNat then
    match c.mapper with
    | .serial m => .produced (m.cram.read (a.toNat % 0x2000))
    | .target m => .produced (m.cram.read (a.toNat % 0x2000))
    | _ => .unclaimed
  else .unclaimed

/-- `cpuMapWrite(a, v)`: whether the write is claimed and the mapper after it (R150, R161, R163, R171, R175, R181,
R183, R189, R190). -/
def cpuMapWrite (c : Cartridge) (a : Word) (v : Byte) : MapWrite × Mapper :=
  if 0x8000 ≤ a.toNat then
    match c.mapper with
    | .fixed => (.claimed, .fixed)
    | .serial m => (.unclaimed, .serial (m.write a v))
    | .lowBank _ => (.unclaimed, .lowBank (v.extractLsb' 0 4))
    | .chrBank _ => (.unclaimed, .chrBank (v.extractLsb' 0 2))
    | .target m => (.unclaimed, .target (m.write a v))
    | .combined _ _ => (.unclaimed, .combined (v.extractLsb' 0 2) (v.extractLsb' 4 2))
  else if 0x6000 ≤ a.toNat then
    match c.mapper with
    | .serial m => (.claimed, .serial { m with cram := m.cram.write (a.toNat % 0x2000) v })
    | .target m => (.claimed, .target { m with cram := m.cram.write (a.toNat % 0x2000) v })
    | m => (.unclaimed, m)
  else (.unclaimed, c.mapper)

/-- `ppuMapRead(a)` for a 14-bit address (R148, R151, R162, R172, R176, R182, R189): with character RAM the offset
is the address itself. -/
def ppuMapRead (c : Cartridge) (a : Nat) : Option Nat :=
  if a < 0x2000 then
    some (if c.chrBanks = 0 then a else
      match c.mapper with
      | .fixed => a
      | .serial m => m.chrOffset a
      | .lowBank _ => a
      | .chrBank chrSel => chrSel.toNat * 0x2000 + a
      | .target m => m.chrOffset a
      | .combined chrSel _ => chrSel.toNat * 0x2000 + a)
  else none

/-- `ppuMapWrite(a)` for a 14-bit address (R149). -/
def ppuMapWrite (c : Cartridge) (a : Nat) : Option Nat := if a < 0x2000 ∧ c.chrBanks = 0 then some a else none

/-- `mirror()`, with HARDWARE resolved to `HW_MIRROR` (R141, R160, R183, `10_state.md` R61). -/
def Cartridge.mirroring (c : Cartridge) : Mirroring :=
  let m := match c.mapper with
    | .serial m => m.mirror
    | .target m => m.mirror
    | _ => .hardware
  match m, c.hwMirror with
  | .hardware, .horizontal => .horizontal
  | .hardware, .vertical => .vertical
  | m, _ => m

/-- `irqState()` (R141, R184). -/
def Mapper.irqState : Mapper → Bool
  | .target m => m.irqActive
  | _ => false

/-- `irqClear()` (R141, R184). -/
def Mapper.irqClear : Mapper → Mapper
  | .target m => .target { m with irqActive := false }
  | m => m

/-- `scanline()` (R141, R184). -/
def Mapper.scanline : Mapper → Mapper
  | .target m => .target m.scanline
  | m => m

/-- `reset()`: the registers of the variant at their reset values, cartridge RAM kept (R150, R160, R170, R174,
R180, R188, `10_state.md` R74). -/
def Mapper.reset : Mapper → Mapper
  | .fixed => .fixed
  | .serial m =>
    .serial { load := 0, loadCount := 0, control := 0x0C, chrLo := 0, chrHi := 0, prg := 0, mirror := .hardware,
              cram := m.cram }
  | .lowBank _ => .lowBank 0
  | .chrBank _ => .chrBank 0
  | .target m =>
    .target { r0 := 0, r1 := 0, r2 := 0, r3 := 0, r4 := 0, r5 := 0, r6 := 0, r7 := 1, target := 0, prgMode := false,
              chrInv := false, mirror := .hardware, irqActive := false, irqEnable := false, irqCounter := 0,
              irqReload := 0, cram := m.cram }
  | .combined _ _ => .combined 0 0

/-- A byte the spec leaves unconstrained (`93_implementation_defined.md` U3): the next free value. -/
def freeByte (s : State) : Byte × State := (Config.freeByte s.freeIndex, s.setFreeIndex (s.freeIndex + 1))

/-- `CartCpuRead(a)`: the claimed byte, if the cartridge claims the address (R145). -/
def cartCpuRead (a : Word) (s : State) : Option Byte × State :=
  match cpuMapRead s.cart a with
  | .unclaimed => (none, s)
  | .produced d => (some d, s)
  | .offset o =>
    if o < s.cart.prgSize then (some (s.cart.prg.read o), s)
    else (some (freeByte s).1, (freeByte s).2)

/-- `CartCpuWrite(a, v)`: whether it is claimed; PRG itself is never written (R146, R147). -/
def cartCpuWrite (a : Word) (v : Byte) (s : State) : MapWrite × State :=
  ((cpuMapWrite s.cart a v).1, s.setMapper (cpuMapWrite s.cart a v).2)

/-- `CartPpuRead(a)` for a 14-bit address (R148). -/
def cartPpuRead (a : Nat) (s : State) : Option Byte × State :=
  match ppuMapRead s.cart a with
  | none => (none, s)
  | some o =>
    if o < s.cart.chrSize then (some (s.cart.chr.read o), s)
    else (some (freeByte s).1, (freeByte s).2)

/-- `CartPpuWrite(a, v)` for a 14-bit address, where the cartridge claims it (R149). -/
def cartPpuWrite (a : Nat) (v : Byte) (s : State) : Option State :=
  match ppuMapWrite s.cart a with
  | none => none
  | some o => some (s.setCart { s.cart with chr := s.cart.chr.write o v })

end Sys2Proof.Machine
end

