-- ==== Sys2Proof/Machine/PpuBus.lean ====
section
/-! DEFINITION. The PPU address space and the eight CPU-visible ports (`20_memory.md` R110 to R116, `50_ppu.md`
R401 to R418). -/
namespace Sys2Proof.Machine

/-- `ppu_ctrl.increment_mode` (R401). -/
def Ppu.incrementMode (p : Ppu) : Bool := p.ctrl.getLsbD 2
/-- `ppu_ctrl.pattern_sprite` (R401). -/
def Ppu.patternSprite (p : Ppu) : Bool := p.ctrl.getLsbD 3
/-- `ppu_ctrl.pattern_background` (R401). -/
def Ppu.patternBackground (p : Ppu) : Bool := p.ctrl.getLsbD 4
/-- `ppu_ctrl.sprite_size` (R401). -/
def Ppu.spriteSize (p : Ppu) : Bool := p.ctrl.getLsbD 5
/-- `ppu_ctrl.enable_nmi` (R401). -/
def Ppu.enableNmi (p : Ppu) : Bool := p.ctrl.getLsbD 7
/-- `ppu_mask.greyscale` (R402). -/
def Ppu.greyscale (p : Ppu) : Bool := p.mask.getLsbD 0
/-- `ppu_mask.render_background_left` (R402). -/
def Ppu.renderBackgroundLeft (p : Ppu) : Bool := p.mask.getLsbD 1
/-- `ppu_mask.render_sprites_left` (R402). -/
def Ppu.renderSpritesLeft (p : Ppu) : Bool := p.mask.getLsbD 2
/-- `ppu_mask.render_background` (R402). -/
def Ppu.renderBackground (p : Ppu) : Bool := p.mask.getLsbD 3
/-- `ppu_mask.render_sprites` (R402). -/
def Ppu.renderSprites (p : Ppu) : Bool := p.mask.getLsbD 4
/-- "Rendering is enabled" (R408). -/
def Ppu.rendering (p : Ppu) : Bool := p.renderBackground || p.renderSprites
/-- Sprite height, 8 or 16 (R440). -/
def Ppu.spriteHeight (p : Ppu) : Nat := if p.spriteSize then 16 else 8

/-- `coarse_x`, bits 4:0 of a scroll register (`10_state.md` R47). -/
def coarseX (r : BitVec 15) : BitVec 5 := r.extractLsb' 0 5
/-- `coarse_y`, bits 9:5 (R47). -/
def coarseY (r : BitVec 15) : BitVec 5 := r.extractLsb' 5 5
/-- `nt_x`, bit 10 (R47). -/
def ntX (r : BitVec 15) : BitVec 1 := r.extractLsb' 10 1
/-- `nt_y`, bit 11 (R47). -/
def ntY (r : BitVec 15) : BitVec 1 := r.extractLsb' 11 1
/-- `fine_y`, bits 14:12 (R47). -/
def fineY (r : BitVec 15) : BitVec 3 := r.extractLsb' 12 3

/-- The scroll register of the five fields (R47). -/
def scroll (fy : BitVec 3) (ny nx : BitVec 1) (cy cx : BitVec 5) : BitVec 15 := fy ++ ny ++ nx ++ cy ++ cx

def withCoarseX (x : BitVec 5) (r : BitVec 15) : BitVec 15 := scroll (fineY r) (ntY r) (ntX r) (coarseY r) x
def withCoarseY (y : BitVec 5) (r : BitVec 15) : BitVec 15 := scroll (fineY r) (ntY r) (ntX r) y (coarseX r)
def withNtX (x : BitVec 1) (r : BitVec 15) : BitVec 15 := scroll (fineY r) (ntY r) x (coarseY r) (coarseX r)
def withNtY (y : BitVec 1) (r : BitVec 15) : BitVec 15 := scroll (fineY r) y (ntX r) (coarseY r) (coarseX r)
def withFineY (y : BitVec 3) (r : BitVec 15) : BitVec 15 := scroll y (ntY r) (ntX r) (coarseY r) (coarseX r)

/-- `NtSelect(a)`: the physical nametable (false 0, true 1) of quadrant `a[11:10]` (`20_memory.md` R114). -/
def ntSelect (m : Mirroring) (quadrant : BitVec 2) : Bool :=
  match m with
  | .vertical => quadrant.getLsbD 0
  | .horizontal => quadrant.getLsbD 1
  | .onescreenHi => true
  | _ => false

/-- `PalIndex(a)` (`20_memory.md` R115). -/
def palIndex (a : Nat) : Nat := if a % 32 ≥ 16 ∧ a % 4 = 0 then a % 32 - 16 else a % 32

/-- A nametable byte of the PPU (R113). -/
def Ppu.ntRead (table : Bool) (k : Nat) (p : Ppu) : Byte := if table then p.nt1.read k else p.nt0.read k

/-- A nametable byte of the PPU written (R113). -/
def Ppu.ntWrite (table : Bool) (k : Nat) (v : Byte) (p : Ppu) : Ppu :=
  if table then { p with nt1 := p.nt1.write k v } else { p with nt0 := p.nt0.write k v }

/-- A byte of an internal pattern table (R112). -/
def Ppu.ptRead (table : Bool) (k : Nat) (p : Ppu) : Byte := if table then p.pt1.read k else p.pt0.read k

/-- A byte of an internal pattern table written (R112). -/
def Ppu.ptWrite (table : Bool) (k : Nat) (v : Byte) (p : Ppu) : Ppu :=
  if table then { p with pt1 := p.pt1.write k v } else { p with pt0 := p.pt0.write k v }

/-- A palette read, masked (`20_memory.md` R115). -/
def Ppu.palRead (a : Nat) (p : Ppu) : Byte :=
  p.pal.read (palIndex a) &&& (if p.greyscale then 0x30 else 0x3F)

/-- The quadrant of a nametable address, `a[11:10]` (R113). -/
def quadrantOf (a : Nat) : BitVec 2 := BitVec.ofNat 2 (a / 0x400)

/-- `PpuRead(a)` (`20_memory.md` R110). -/
def ppuRead (a : Word) (s : State) : Byte × State :=
  let k := a.toNat % 0x4000
  match cartPpuRead k s with
  | (some d, s') => (d, s')
  | (none, s') =>
    if k < 0x2000 then (s'.ppu.ptRead (decide (0x1000 ≤ k)) (k % 0x1000), s')
    else if k < 0x3F00 then (s'.ppu.ntRead (ntSelect s'.cart.mirroring (quadrantOf k)) (k % 0x400), s')
    else (s'.ppu.palRead k, s')

/-- `PpuWrite(a, v)` (`20_memory.md` R111). -/
def ppuWrite (a : Word) (v : Byte) (s : State) : State :=
  let k := a.toNat % 0x4000
  match cartPpuWrite k v s with
  | some s' => s'
  | none =>
    if k < 0x2000 then s.setPpu (s.ppu.ptWrite (decide (0x1000 ≤ k)) (k % 0x1000) v)
    else if k < 0x3F00 then
      s.setPpu (s.ppu.ntWrite (ntSelect s.cart.mirroring (quadrantOf k)) (k % 0x400) v)
    else s.setPpu { s.ppu with pal := s.ppu.pal.write (palIndex k) v }

/-- The byte a status read returns; bits 4:0 are 0 (`50_ppu.md` R412, log entry 5). -/
def Ppu.statusByte (p : Ppu) : Byte :=
  BitVec.ofBool p.verticalBlank ++ BitVec.ofBool p.spriteZeroHit ++ BitVec.ofBool p.spriteOverflow ++ 0#5

/-- `v` after an access of port 7 (`50_ppu.md` R417). -/
def Ppu.advanceV (p : Ppu) : Ppu := { p with v := p.v + (if p.incrementMode then 32 else 1) }

/-- Read of port 7 (`50_ppu.md` R417). -/
def readPort7 (s : State) : Byte × State :=
  let old := s.ppu.dataBuffer
  let r := ppuRead (s.ppu.v.setWidth 16) s
  let value := if 0x3F00 ≤ s.ppu.v.toNat % 0x4000 then r.1 else old
  (value, r.2.setPpu ({ r.2.ppu with dataBuffer := r.1 } : Ppu).advanceV)

/-- `PpuPortRead(p)` (`50_ppu.md` R412, R414, R417, R418). -/
def ppuPortRead (port : BitVec 3) (s : State) : Byte × State :=
  match port with
  | 2 => (s.ppu.statusByte, s.setPpu { s.ppu with verticalBlank := false, addressLatch := false })
  | 4 => (s.ppu.oam.read s.ppu.oamAddr.toNat, s)
  | 7 => readPort7 s
  | _ => (0x00, s)

/-- Write of port 0 (`50_ppu.md` R410). -/
def Ppu.writeCtrl (d : Byte) (p : Ppu) : Ppu :=
  { p with ctrl := d, t := withNtY (d.extractLsb' 1 1) (withNtX (d.extractLsb' 0 1) p.t) }

/-- Write of port 4 (`50_ppu.md` R414). -/
def Ppu.writeOam (d : Byte) (p : Ppu) : Ppu :=
  { p with oam := p.oam.write p.oamAddr.toNat d, oamAddr := p.oamAddr + 1 }

/-- Write of port 5 (`50_ppu.md` R415). -/
def Ppu.writeScroll (d : Byte) (p : Ppu) : Ppu :=
  if p.addressLatch then
    { p with t := withCoarseY (d.extractLsb' 3 5) (withFineY (d.extractLsb' 0 3) p.t), addressLatch := false }
  else { p with fineX := d.extractLsb' 0 3, t := withCoarseX (d.extractLsb' 3 5) p.t, addressLatch := true }

/-- Write of port 6 (`50_ppu.md` R416). -/
def Ppu.writeAddr (d : Byte) (p : Ppu) : Ppu :=
  if p.addressLatch then
    let t := (p.t &&& 0x7F00) ||| d.setWidth 15
    { p with t := t, v := t, addressLatch := false }
  else { p with t := ((d &&& 0x3F).setWidth 15 <<< 8) ||| (p.t &&& 0x00FF), addressLatch := true }

/-- Write of port 7 (`50_ppu.md` R417). -/
def writePort7 (d : Byte) (s : State) : State :=
  let s' := ppuWrite (s.ppu.v.setWidth 16) d s
  s'.setPpu s'.ppu.advanceV

/-- `PpuPortWrite(p, d)` (`50_ppu.md` R410 to R418). -/
def ppuPortWrite (port : BitVec 3) (d : Byte) (s : State) : State :=
  match port with
  | 0 => s.setPpu (s.ppu.writeCtrl d)
  | 1 => s.setPpu { s.ppu with mask := d }
  | 2 => s
  | 3 => s.setPpu { s.ppu with oamAddr := d }
  | 4 => s.setPpu (s.ppu.writeOam d)
  | 5 => s.setPpu (s.ppu.writeScroll d)
  | 6 => s.setPpu (s.ppu.writeAddr d)
  | _ => writePort7 d s

end Sys2Proof.Machine
end

