-- ==== Sys2Proof/Machine/Ops.lean ====
section
/-! DEFINITION. The named operations over memory and registers: CPU bus reads and writes, the stack, taking an
interrupt and returning from one (`20_memory.md` R81 to R94, `40_addressing_modes.md` R252, `60_exceptions.md` R524
to R527, R532). -/
namespace Sys2Proof.Machine

/-- `ControllerRead(0)` (`20_memory.md` R93). -/
def readController0 (s : State) : Byte × State := (bitByte (s.latch0.getLsbD 7), s.setLatch0 (s.latch0 <<< 1))

/-- `ControllerRead(1)` (`20_memory.md` R93). -/
def readController1 (s : State) : Byte × State := (bitByte (s.latch1.getLsbD 7), s.setLatch1 (s.latch1 <<< 1))

/-- `DmaArm(v)` (`20_memory.md` R89). -/
def dmaArm (v : Byte) (s : State) : State :=
  s.setDma { s.dma with page := v, addr := 0x00, transfer := true }

/-- The PPU port of an address in 0x2000 to 0x3FFF, `a & 7` (`20_memory.md` R86). -/
def portOf (a : Word) : BitVec 3 := a.extractLsb' 0 3

/-- The fixed map under a read the cartridge did not claim (`20_memory.md` R81, R84). -/
def fixedRead (a : Word) (s : State) : Byte × State :=
  if a.toNat < 0x2000 then (s.ram.read (a.toNat % 0x800), s)
  else if a.toNat < 0x4000 then ppuPortRead (portOf a) s
  else if a.toNat = 0x4016 then readController0 s
  else if a.toNat = 0x4017 then readController1 s
  else (0x00, s)

/-- The fixed map under a write the cartridge did not claim (`20_memory.md` R82, R84). -/
def fixedWrite (a : Word) (v : Byte) (s : State) : State :=
  if a.toNat < 0x2000 then s.setRam (s.ram.write (a.toNat % 0x800) v)
  else if a.toNat < 0x4000 then ppuPortWrite (portOf a) v s
  else if a.toNat = 0x4014 then dmaArm v s
  else if a.toNat = 0x4016 then s.setLatch0 s.controller0
  else if a.toNat = 0x4017 then s.setLatch1 s.controller1
  else s

/-- `MemRead(a, 1)`: the byte, and the state after the read's side effects (`20_memory.md` R81). -/
def memRead (a : Word) (s : State) : Byte × State :=
  match cartCpuRead a s with
  | (some d, s') => (d, s')
  | (none, s') => fixedRead a s'

/-- `MemWrite(a, 1, v)` (`20_memory.md` R82). -/
def memWrite (a : Word) (v : Byte) (s : State) : State :=
  match cartCpuWrite a v s with
  | (.claimed, s') => s'
  | (.unclaimed, s') => fixedWrite a v s'

/-- `MemRead16(a)`: low byte at `a`, then high byte at `a + 1` (`00_scope.md` R15). -/
def memRead16 (a : Word) (s : State) : Word × State :=
  let lo := memRead a s
  let hi := memRead (a + 1) lo.2
  (pair hi.1 lo.1, hi.2)

/-- The byte of the stack page the stack pointer designates (`10_state.md` R23). -/
def stackAddr (sp : Byte) : Word := pair 0x01 sp

/-- `push(v)` (`40_addressing_modes.md` R252). -/
def push (v : Byte) (s : State) : State := (memWrite (stackAddr s.cpu.sp) v s).setSp (s.cpu.sp - 1)

/-- `pull()` (`40_addressing_modes.md` R252). -/
def pull (s : State) : Byte × State := memRead (stackAddr (s.cpu.sp + 1)) (s.setSp (s.cpu.sp + 1))

/-- A 16-bit value pushed high byte first (R252). -/
def pushWord (w : Word) (s : State) : State := push (lo8 w) (push (hi8 w) s)

/-- A 16-bit value pulled low byte first (R252). -/
def pullWord (s : State) : Word × State :=
  let lo := pull s
  let hi := pull lo.2
  (pair hi.1 lo.1, hi.2)

/-- The NMI vector (`20_memory.md` R120). -/
def nmiVector : Word := 0xFFFA
/-- The reset vector (`20_memory.md` R120). -/
def resetVector : Word := 0xFFFC
/-- The IRQ vector, shared by BRK (`20_memory.md` R120). -/
def irqVector : Word := 0xFFFE

/-- TAKING AN INTERRUPT, shared by `irq()`, `nmi()` and BRK (`60_exceptions.md` R524, R525,
`45_stack_flags_system.md` R386): push PC high then low, push the status image, set I, load PC from the vector. -/
def takeInterrupt (image : Byte) (vector : Word) (s : State) : State :=
  let pushed := push image (pushWord s.cpu.pc s)
  let target := memRead16 vector (pushed.setFlag .i true)
  target.2.setPc target.1

/-- RETURNING FROM ONE: pull P with bit 5 forced, pull PC (`45_stack_flags_system.md` R387, `60_exceptions.md`
R532). -/
def returnFromInterrupt (s : State) : State :=
  let p := pull s
  let pc := pullWord (p.2.setP (p.1 ||| 0x20))
  pc.2.setPc pc.1

/-- The entry of a hardware interrupt: B cleared and U set in the live P, that P pushed with the old I, `addr_abs`
at the vector, `cycles` at the cost (`60_exceptions.md` R524, R525). -/
def hardwareInterrupt (vector : Word) (cost : Byte) (s : State) : State :=
  let s1 := (s.setFlag .b false).setFlag .u true
  ((takeInterrupt s1.cpu.p vector s1).setAddrAbs vector).setCycles cost

/-- `irq()` (`60_exceptions.md` R524). -/
def irq (s : State) : State := if s.flag .i then s else hardwareInterrupt irqVector 7 s

/-- `nmi()` (`60_exceptions.md` R525). -/
def nmi (s : State) : State := hardwareInterrupt nmiVector 8 s

/-- CPU `reset()` (`70_reset_and_hazards.md` R560). -/
def cpuReset (s : State) : State :=
  let vector := memRead16 resetVector s
  vector.2.setCpu (Cpu.atReset vector.1)

/-- PPU reset: every register and pipeline element at its reset value, the memories kept (`50_ppu.md` R470). -/
def Ppu.reset (p : Ppu) : Ppu :=
  { Ppu.atReset with nt0 := p.nt0, nt1 := p.nt1, pal := p.pal, oam := p.oam, pt0 := p.pt0, pt1 := p.pt1 }

/-- The full reset: mapper, CPU, PPU, bus, in this order (`70_reset_and_hazards.md` R561). -/
def fullReset (s : State) : State :=
  let s1 := cpuReset (s.setMapper s.cart.mapper.reset)
  ((s1.setPpu s1.ppu.reset).setClock 0).setDma Dma.atReset

end Sys2Proof.Machine
end

