-- ==== Sys2Proof/Machine/Operands.lean ====
section
/-! DEFINITION. The twelve addressing modes, the operand fetch, the write-back and the cycle count
(`40_addressing_modes.md`). A meaning runs after the instruction's bytes are fetched, so PC is the address of the
byte after the instruction (R258) and the operand bytes are in the operand. -/
namespace Sys2Proof.Machine

/-- An address computation: the address and whether the index crossed a page. -/
structure Indexed where
  addr : Word
  crossed : Bool
  deriving DecidableEq, Repr

/-- `base + index` modulo 65536 and its page-cross report (R239). -/
def indexed (base : Word) (index : Byte) : Indexed :=
  { addr := base + zext16 index, crossed := decide (hi8 (base + zext16 index) ≠ hi8 base) }

/-- The pointer of IND: a pointer whose low byte is 0xFF wraps within its page (R244). -/
def indirectPointer (ptr : Word) (s : State) : Word × State :=
  let lo := memRead ptr s
  let hi := memRead (if lo8 ptr = 0xFF then pair (hi8 ptr) 0x00 else ptr + 1) lo.2
  (pair hi.1 lo.1, hi.2)

/-- A pointer in the zero page, its high byte wrapping to 0x0000 (R245, R246). -/
def zeroPagePointer (t : Byte) (s : State) : Word × State :=
  let lo := memRead (zext16 t) s
  let hi := memRead (zext16 (t + 1)) lo.2
  (pair hi.1 lo.1, hi.2)

/-- What a mode function leaves: its page-cross report and the state. -/
structure Addressed where
  crossed : Bool
  state : State
  deriving DecidableEq, Repr

/-- The mode functions (R232 to R246). -/
def applyMode (o : Operand) (s : State) : Addressed :=
  match o with
  | .imp => { crossed := false, state := s.setFetched s.cpu.a }
  | .imm _ => { crossed := false, state := s.setAddrAbs (s.cpu.pc - 1) }
  | .zp0 b => { crossed := false, state := s.setAddrAbs (zext16 b) }
  | .zpx b => { crossed := false, state := s.setAddrAbs (zext16 (b + s.cpu.x)) }
  | .zpy b => { crossed := false, state := s.setAddrAbs (zext16 (b + s.cpu.y)) }
  | .rel b => { crossed := false, state := s.setAddrRel (sext16 b) }
  | .abs w => { crossed := false, state := s.setAddrAbs w }
  | .abx w => { crossed := (indexed w s.cpu.x).crossed, state := s.setAddrAbs (indexed w s.cpu.x).addr }
  | .aby w => { crossed := (indexed w s.cpu.y).crossed, state := s.setAddrAbs (indexed w s.cpu.y).addr }
  | .ind w =>
    let p := indirectPointer w s
    { crossed := false, state := p.2.setAddrAbs p.1 }
  | .izx b =>
    let p := zeroPagePointer (b + s.cpu.x) s
    { crossed := false, state := p.2.setAddrAbs p.1 }
  | .izy b =>
    let p := zeroPagePointer b s
    let i := indexed p.1 p.2.cpu.y
    { crossed := i.crossed, state := p.2.setAddrAbs i.addr }

/-- `Operand()` (R250). In IMM mode the read of the byte after the opcode is the one the fetch step has made (R256
(4)); the byte stands in the operand. -/
def fetchOperand (o : Operand) (s : State) : Byte × State :=
  match o with
  | .imp => (s.cpu.fetched, s)
  | .imm b => (b, s.setFetched b)
  | _ =>
    let r := memRead s.cpu.addrAbs s
    (r.1, r.2.setFetched r.1)

/-- An operand read: the mode function, then `Operand()`. -/
structure Fetched where
  value : Byte
  crossed : Bool
  state : State
  deriving DecidableEq, Repr

/-- The mode function and then the operand fetch. -/
def readOperand (o : Operand) (s : State) : Fetched :=
  let m := applyMode o s
  let r := fetchOperand o m.state
  { value := r.1, crossed := m.crossed, state := r.2 }

/-- `WriteBack(r)` (R251). -/
def writeBack (o : Operand) (r : Byte) (s : State) : State :=
  match o with
  | .imp => s.setA r
  | _ => memWrite s.cpu.addrAbs r s

/-- `cycles <- base + (m_extra & o_extra) + b_extra` (R255). -/
def setCost (base : Nat) (mExtra oExtra : Bool) (bExtra : Nat) (s : State) : State :=
  s.setCycles (BitVec.ofNat 8 (base + (mExtra && oExtra).toNat + bExtra))

/-- The end of an operation that returns `(o_extra, b_extra)`. -/
def complete (op : Op) (o : Operand) (mExtra oExtra : Bool) (bExtra : Nat) (s : State) : Result :=
  .next (setCost (baseCycles op o.mode) mExtra oExtra bExtra s)

/-- The state an operation without operand runs in: after the mode function IMP (R232). -/
def implied (s : State) : State := (applyMode .imp s).state

/-- The end of an operation without operand, which returns (0, 0). -/
def completeImplied (op : Op) (s : State) : Result := complete op .imp false false 0 s

end Sys2Proof.Machine
end

