-- ==== Sys2Proof/Machine/Arithmetic.lean ====
section
/-! DEFINITION. Arithmetic, logic, compare, increment and decrement (`42_arithmetic_logic.md`). P.D is stored and never alters
arithmetic (R290). -/
namespace Sys2Proof.Machine

/-- ADC (R291). -/
def execAdc (o : Operand) (s : State) : Result :=
  let m := readOperand o s
  complete .adc o m.crossed true 0 (addWithCarry m.value m.state)

/-- SBC (R292). -/
def execSbc (o : Operand) (s : State) : Result :=
  let m := readOperand o s
  complete .sbc o m.crossed true 0 (addWithCarry (m.value ^^^ 0xFF) m.state)

/-- AND (R293). -/
def execAnd (o : Operand) (s : State) : Result :=
  let m := readOperand o s
  let r := m.state.cpu.a &&& m.value
  complete .and o m.crossed true 0 (setZN r (m.state.setA r))

/-- ORA (R294). -/
def execOra (o : Operand) (s : State) : Result :=
  let m := readOperand o s
  let r := m.state.cpu.a ||| m.value
  complete .ora o m.crossed true 0 (setZN r (m.state.setA r))

/-- EOR (R295). -/
def execEor (o : Operand) (s : State) : Result :=
  let m := readOperand o s
  let r := m.state.cpu.a ^^^ m.value
  complete .eor o m.crossed true 0 (setZN r (m.state.setA r))

/-- BIT (R296). -/
def execBit (o : Operand) (s : State) : Result :=
  let m := readOperand o s
  complete .bit o m.crossed false 0 (bitTestFlags m.value m.state)

/-- CMP (R297). -/
def execCmp (o : Operand) (s : State) : Result :=
  let m := readOperand o s
  complete .cmp o m.crossed true 0 (compareFlags m.state.cpu.a m.value m.state)

/-- CPX (R298). -/
def execCpx (o : Operand) (s : State) : Result :=
  let m := readOperand o s
  complete .cpx o m.crossed false 0 (compareFlags m.state.cpu.x m.value m.state)

/-- CPY (R299). -/
def execCpy (o : Operand) (s : State) : Result :=
  let m := readOperand o s
  complete .cpy o m.crossed false 0 (compareFlags m.state.cpu.y m.value m.state)

/-- INC (R300): one read and one write of the byte at the effective address. -/
def execInc (o : Operand) (s : State) : Result :=
  let m := readOperand o s
  let r := m.value + 1
  complete .inc o m.crossed false 0 (setZN r (memWrite m.state.cpu.addrAbs r m.state))

/-- DEC (R301): one read and one write of the byte at the effective address. -/
def execDec (o : Operand) (s : State) : Result :=
  let m := readOperand o s
  let r := m.value - 1
  complete .dec o m.crossed false 0 (setZN r (memWrite m.state.cpu.addrAbs r m.state))

/-- INX (R302). -/
def execInx (s : State) : Result :=
  let s1 := implied s
  let r := s1.cpu.x + 1
  completeImplied .inx (setZN r (s1.setX r))

/-- INY (R303). -/
def execIny (s : State) : Result :=
  let s1 := implied s
  let r := s1.cpu.y + 1
  completeImplied .iny (setZN r (s1.setY r))

/-- DEX (R304). -/
def execDex (s : State) : Result :=
  let s1 := implied s
  let r := s1.cpu.x - 1
  completeImplied .dex (setZN r (s1.setX r))

/-- DEY (R305). -/
def execDey (s : State) : Result :=
  let s1 := implied s
  let r := s1.cpu.y - 1
  completeImplied .dey (setZN r (s1.setY r))

end Sys2Proof.Machine
end

