-- ==== Sys2Proof/Machine/Control.lean ====
section
/-! DEFINITION. Jumps, subroutine calls and conditional branches (`44_control_transfer.md`). PC already holds the address of the byte
after the instruction (R340). -/
namespace Sys2Proof.Machine

/-- JMP (R341). -/
def execJmp (o : Operand) (s : State) : Result :=
  let m := applyMode o s
  complete .jmp o m.crossed false 0 (m.state.setPc m.state.cpu.addrAbs)

/-- JSR (R342): pushes the address of the instruction's last byte. -/
def execJsr (o : Operand) (s : State) : Result :=
  let m := applyMode o s
  let s1 := m.state.setPc (m.state.cpu.pc - 1)
  let s2 := pushWord s1.cpu.pc s1
  complete .jsr o m.crossed false 0 (s2.setPc s2.cpu.addrAbs)

/-- RTS (R343). -/
def execRts (s : State) : Result :=
  let r := pullWord (implied s)
  completeImplied .rts (r.2.setPc (r.1 + 1))

/-- The target of a branch (R344). -/
def branchTarget (s : State) : Word := s.cpu.pc + s.cpu.addrRel

/-- The extra cycles of a taken branch: 1, and 1 more when the target is in another page than the byte after the
branch (R344). -/
def takenExtra (s : State) : Nat := if hi8 (branchTarget s) = hi8 s.cpu.pc then 1 else 2

/-- `Branch(cond)` (R344), shared by the eight branches. -/
def branch (op : Op) (o : Operand) (crossed cond : Bool) (s : State) : Result :=
  if cond then complete op o crossed false (takenExtra s) (s.setPc (branchTarget s))
  else complete op o crossed false 0 s

/-- BCC (R345). -/
def execBcc (o : Operand) (s : State) : Result :=
  let m := applyMode o s
  branch .bcc o m.crossed (!m.state.flag .c) m.state

/-- BCS (R346). -/
def execBcs (o : Operand) (s : State) : Result :=
  let m := applyMode o s
  branch .bcs o m.crossed (m.state.flag .c) m.state

/-- BEQ (R347). -/
def execBeq (o : Operand) (s : State) : Result :=
  let m := applyMode o s
  branch .beq o m.crossed (m.state.flag .z) m.state

/-- BNE (R348). -/
def execBne (o : Operand) (s : State) : Result :=
  let m := applyMode o s
  branch .bne o m.crossed (!m.state.flag .z) m.state

/-- BMI (R349). -/
def execBmi (o : Operand) (s : State) : Result :=
  let m := applyMode o s
  branch .bmi o m.crossed (m.state.flag .n) m.state

/-- BPL (R350). -/
def execBpl (o : Operand) (s : State) : Result :=
  let m := applyMode o s
  branch .bpl o m.crossed (!m.state.flag .n) m.state

/-- BVC (R351). -/
def execBvc (o : Operand) (s : State) : Result :=
  let m := applyMode o s
  branch .bvc o m.crossed (!m.state.flag .v) m.state

/-- BVS (R352). -/
def execBvs (o : Operand) (s : State) : Result :=
  let m := applyMode o s
  branch .bvs o m.crossed (m.state.flag .v) m.state

end Sys2Proof.Machine
end

