-- ==== Sys2Proof/Machine/LoadStore.lean ====
section
/-! DEFINITION. Loads, stores and register transfers (`41_load_store_transfer.md`). A meaning is the mode function, the operation
and the cycle count; its `(o_extra, b_extra)` is the pair its rule returns. -/
namespace Sys2Proof.Machine

/-- LDA (R261). -/
def execLda (o : Operand) (s : State) : Result :=
  let m := readOperand o s
  complete .lda o m.crossed true 0 (setZN m.value (m.state.setA m.value))

/-- LDX (R262). -/
def execLdx (o : Operand) (s : State) : Result :=
  let m := readOperand o s
  complete .ldx o m.crossed true 0 (setZN m.value (m.state.setX m.value))

/-- LDY (R263). -/
def execLdy (o : Operand) (s : State) : Result :=
  let m := readOperand o s
  complete .ldy o m.crossed true 0 (setZN m.value (m.state.setY m.value))

/-- STA (R264): no read of the target precedes the write. -/
def execSta (o : Operand) (s : State) : Result :=
  let m := applyMode o s
  complete .sta o m.crossed false 0 (memWrite m.state.cpu.addrAbs m.state.cpu.a m.state)

/-- STX (R265): no read of the target precedes the write. -/
def execStx (o : Operand) (s : State) : Result :=
  let m := applyMode o s
  complete .stx o m.crossed false 0 (memWrite m.state.cpu.addrAbs m.state.cpu.x m.state)

/-- STY (R266): no read of the target precedes the write. -/
def execSty (o : Operand) (s : State) : Result :=
  let m := applyMode o s
  complete .sty o m.crossed false 0 (memWrite m.state.cpu.addrAbs m.state.cpu.y m.state)

/-- TAX (R267). -/
def execTax (s : State) : Result :=
  let s1 := implied s
  completeImplied .tax (setZN s1.cpu.a (s1.setX s1.cpu.a))

/-- TAY (R268). -/
def execTay (s : State) : Result :=
  let s1 := implied s
  completeImplied .tay (setZN s1.cpu.a (s1.setY s1.cpu.a))

/-- TXA (R269). -/
def execTxa (s : State) : Result :=
  let s1 := implied s
  completeImplied .txa (setZN s1.cpu.x (s1.setA s1.cpu.x))

/-- TYA (R270). -/
def execTya (s : State) : Result :=
  let s1 := implied s
  completeImplied .tya (setZN s1.cpu.y (s1.setA s1.cpu.y))

/-- TSX (R271). -/
def execTsx (s : State) : Result :=
  let s1 := implied s
  completeImplied .tsx (setZN s1.cpu.sp (s1.setX s1.cpu.sp))

/-- TXS (R272): the only transfer that writes no flag. -/
def execTxs (s : State) : Result :=
  let s1 := implied s
  completeImplied .txs (s1.setSp s1.cpu.x)

end Sys2Proof.Machine
end

