-- ==== Sys2Proof/Machine/Shift.lean ====
section
/-! DEFINITION. Shifts and rotates (`43_shift_rotate.md`). The operand `imp` is the accumulator form: `Operand()` is the copy of A
and the write-back goes to A (R320). -/
namespace Sys2Proof.Machine

/-- The common end of the four: C is the bit shifted out, Z and N are of the result, the result is written back. -/
def shiftResult (op : Op) (o : Operand) (r : Byte × Bool) (crossed : Bool) (s : State) : Result :=
  complete op o crossed false 0 (writeBack o r.1 (setZN r.1 (s.setFlag .c r.2)))

/-- ASL (R321). -/
def execAsl (o : Operand) (s : State) : Result :=
  let m := readOperand o s
  shiftResult .asl o (shiftLeft m.value) m.crossed m.state

/-- LSR (R322). -/
def execLsr (o : Operand) (s : State) : Result :=
  let m := readOperand o s
  shiftResult .lsr o (shiftRight m.value) m.crossed m.state

/-- ROL (R323). -/
def execRol (o : Operand) (s : State) : Result :=
  let m := readOperand o s
  shiftResult .rol o (rotateLeft (m.state.flag .c) m.value) m.crossed m.state

/-- ROR (R324). -/
def execRor (o : Operand) (s : State) : Result :=
  let m := readOperand o s
  shiftResult .ror o (rotateRight (m.state.flag .c) m.value) m.crossed m.state

end Sys2Proof.Machine
end

