-- ==== Sys2Proof/Machine/System.lean ====
section
/-! DEFINITION. Stack, flag and system instructions and the undocumented catch-all (`45_stack_flags_system.md`). -/
namespace Sys2Proof.Machine

/-- PHA (R371). -/
def execPha (s : State) : Result :=
  let s1 := implied s
  completeImplied .pha (push s1.cpu.a s1)

/-- PLA (R373). -/
def execPla (s : State) : Result :=
  let r := pull (implied s)
  completeImplied .pla (setZN r.1 (r.2.setA r.1))

/-- PHP (R375): bits 4 and 5 are set in the pushed byte, the live P is unchanged. -/
def execPhp (s : State) : Result :=
  let s1 := implied s
  completeImplied .php (push (s1.cpu.p ||| 0x30) s1)

/-- PLP (R377): all eight bits are loaded, then bit 5 is forced to 1. -/
def execPlp (s : State) : Result :=
  let r := pull (implied s)
  completeImplied .plp (r.2.setP (r.1 ||| 0x20))

/-- CLC (R379). -/
def execClc (s : State) : Result := completeImplied .clc ((implied s).setFlag .c false)

/-- SEC (R380). -/
def execSec (s : State) : Result := completeImplied .sec ((implied s).setFlag .c true)

/-- CLI (R381). -/
def execCli (s : State) : Result := completeImplied .cli ((implied s).setFlag .i false)

/-- SEI (R382). -/
def execSei (s : State) : Result := completeImplied .sei ((implied s).setFlag .i true)

/-- CLD (R383). -/
def execCld (s : State) : Result := completeImplied .cld ((implied s).setFlag .d false)

/-- SED (R384). -/
def execSed (s : State) : Result := completeImplied .sed ((implied s).setFlag .d true)

/-- CLV (R385). -/
def execClv (s : State) : Result := completeImplied .clv ((implied s).setFlag .v false)

/-- BRK (R386): the byte after the opcode is skipped without being read; the pushed status has bits 4 and 5 set and
the old I; the live B is unchanged. -/
def execBrk (s : State) : Result :=
  let s1 := implied s
  let s2 := s1.setPc (s1.cpu.pc + 1)
  completeImplied .brk (takeInterrupt (s2.cpu.p ||| 0x30) irqVector s2)

/-- RTI (R387). -/
def execRti (s : State) : Result := completeImplied .rti (returnFromInterrupt (implied s))

/-- NOP (R390). -/
def execNop (s : State) : Result := completeImplied .nop (implied s)

/-- XXX, the catch-all of the undocumented opcodes (R392): the mode function of its table entry (by default IMP) and
its cycle cost, nothing else. -/
def execXxx (opcode : Byte) (o : Operand) (s : State) : Result :=
  let m := applyMode o s
  .next (setCost (s.params.entry opcode).base m.crossed false 0 m.state)

end Sys2Proof.Machine
end

