-- ==== Sys2Proof/Machine/Render.lean ====
section
/-! DEFINITION. The PPU's clock: the background and sprite pipelines, the pixel compositor, the status events and
the position counters (`50_ppu.md` sections 3 to 6). Each step of `PpuClock()` is a definition with its condition. -/
namespace Sys2Proof.Machine

/-- A step of the PPU alone. -/
def State.mapPpu (f : Ppu → Ppu) (s : State) : State := s.setPpu (f s.ppu)

/-- Scanlines -1 to 239, "visible and pre-render scanlines" (R420). -/
def Ppu.renderLine (p : Ppu) : Bool := decide (-1 ≤ p.scanline ∧ p.scanline ≤ 239)

/-- Scanlines 0 to 239 (R421). -/
def Ppu.visibleLine (p : Ppu) : Bool := decide (0 ≤ p.scanline ∧ p.scanline ≤ 239)

/-- The pre-render scanline (R420). -/
def Ppu.preRenderLine (p : Ppu) : Bool := decide (p.scanline = -1)

/-- `OddFrameSkip()` (R422). -/
def oddFrameSkip (p : Ppu) : Ppu :=
  if p.scanline = 0 ∧ p.cycle = 0 ∧ p.oddFrame ∧ p.rendering then { p with cycle := 1 } else p

/-- A slot with its pattern shifters cleared. -/
def clearShifters (s : Slot) : Slot := { s with lo := 0, hi := 0 }

/-- `PreRenderClear()` (R423), with the sprite-zero flags that its decision D47 clears there too (log entry 16). -/
def preRenderClear (p : Ppu) : Ppu :=
  if p.preRenderLine ∧ p.cycle = 1 then
    { p with verticalBlank := false, spriteZeroHit := false, spriteOverflow := false, sprCount := 0,
             slots := p.slots.map clearShifters, spr0Possible := false, spr0Rendering := false }
  else p

/-- `ShiftBackground()` (R424). -/
def shiftBackground (p : Ppu) : Ppu :=
  if p.renderBackground then
    { p with bgPatLo := p.bgPatLo <<< 1, bgPatHi := p.bgPatHi <<< 1, bgAttLo := p.bgAttLo <<< 1,
             bgAttHi := p.bgAttHi <<< 1 }
  else p

/-- One slot's part of `ShiftSprites()` (R445). -/
def shiftSlot (s : Slot) : Slot :=
  if s.x = 0 then { s with lo := s.lo <<< 1, hi := s.hi <<< 1 } else { s with x := s.x - 1 }

/-- The first `n` slots through `f`. -/
def onFirst (n : Nat) (f : Slot → Slot) : List Slot → List Slot
  | [] => []
  | s :: l => match n with
    | 0 => s :: l
    | k + 1 => f s :: onFirst k f l

/-- `ShiftSprites()`, in cycles 2 to 257 (R445). -/
def shiftSprites (p : Ppu) : Ppu :=
  if p.renderSprites ∧ 2 ≤ p.cycle ∧ p.cycle ≤ 257 then { p with slots := onFirst p.sprCount shiftSlot p.slots }
  else p

/-- A 16-bit shifter with its low byte replaced. -/
def loadLow (r : BitVec 16) (b : Byte) : BitVec 16 := pair (hi8 r) b

/-- `LoadBgShifters()` (R426). -/
def loadBgShifters (p : Ppu) : Ppu :=
  { p with bgPatLo := loadLow p.bgPatLo p.bgNextLsb, bgPatHi := loadLow p.bgPatHi p.bgNextMsb,
           bgAttLo := loadLow p.bgAttLo (spread8 (p.bgNextAttr.getLsbD 0)),
           bgAttHi := loadLow p.bgAttHi (spread8 (p.bgNextAttr.getLsbD 1)) }

/-- The nametable address of the tile id (R427). -/
def tileIdAddr (v : BitVec 15) : Word := 0x2000 ||| (v.setWidth 16 &&& 0x0FFF)

/-- `FetchTileId()` (R427). -/
def fetchTileId (s : State) : State :=
  let r := ppuRead (tileIdAddr s.ppu.v) s
  r.2.setPpu { r.2.ppu with bgNextId := r.1 }

/-- The address of the attribute byte (R428). -/
def attrAddr (v : BitVec 15) : Word :=
  0x23C0 ||| ((ntY v).setWidth 16 <<< 11) ||| ((ntX v).setWidth 16 <<< 10) |||
    (((coarseY v).setWidth 16 >>> 2) <<< 3) ||| ((coarseX v).setWidth 16 >>> 2)

/-- The 2-bit palette selector of an attribute byte (R428). -/
def attrSelect (v : BitVec 15) (a : Byte) : BitVec 2 :=
  let a := if (coarseY v).getLsbD 1 then a >>> 4 else a
  let a := if (coarseX v).getLsbD 1 then a >>> 2 else a
  a.extractLsb' 0 2

/-- The attribute fetch (R428). -/
def fetchAttr (s : State) : State :=
  let r := ppuRead (attrAddr s.ppu.v) s
  r.2.setPpu { r.2.ppu with bgNextAttr := attrSelect s.ppu.v r.1 }

/-- The address of the low-plane byte of the next tile's row (R429). -/
def patternAddr (p : Ppu) : Word :=
  ((bitByte p.patternBackground).setWidth 16 <<< 12) + (p.bgNextId.setWidth 16 <<< 4) + (fineY p.v).setWidth 16

/-- The low-plane fetch (R429). -/
def fetchLsb (s : State) : State :=
  let r := ppuRead (patternAddr s.ppu) s
  r.2.setPpu { r.2.ppu with bgNextLsb := r.1 }

/-- The high-plane fetch (R429). -/
def fetchMsb (s : State) : State :=
  let r := ppuRead (patternAddr s.ppu + 8) s
  r.2.setPpu { r.2.ppu with bgNextMsb := r.1 }

/-- The horizontal increment of a scroll register (R430). -/
def incrementX (v : BitVec 15) : BitVec 15 :=
  if coarseX v = 31 then withNtX (ntX v ^^^ 1) (withCoarseX 0 v) else withCoarseX (coarseX v + 1) v

/-- The vertical increment of a scroll register (R431). -/
def incrementY (v : BitVec 15) : BitVec 15 :=
  if fineY v < 7 then withFineY (fineY v + 1) v
  else if coarseY v = 29 then withNtY (ntY v ^^^ 1) (withCoarseY 0 (withFineY 0 v))
  else if coarseY v = 31 then withCoarseY 0 (withFineY 0 v)
  else withCoarseY (coarseY v + 1) (withFineY 0 v)

/-- The horizontal fields of `t` copied to `v` (R432). -/
def copyX (t v : BitVec 15) : BitVec 15 := withNtX (ntX t) (withCoarseX (coarseX t) v)

/-- The vertical fields of `t` copied to `v` (R433). -/
def copyY (t v : BitVec 15) : BitVec 15 := withFineY (fineY t) (withNtY (ntY t) (withCoarseY (coarseY t) v))

/-- `IncrementScrollX()` (R430). -/
def incrementScrollX (p : Ppu) : Ppu := if p.rendering then { p with v := incrementX p.v } else p

/-- `IncrementScrollY()` (R431). -/
def incrementScrollY (p : Ppu) : Ppu := if p.rendering then { p with v := incrementY p.v } else p

/-- `TransferX()` (R432). -/
def transferX (p : Ppu) : Ppu := if p.rendering then { p with v := copyX p.t p.v } else p

/-- `TransferY()` (R433). -/
def transferY (p : Ppu) : Ppu := if p.rendering then { p with v := copyY p.t p.v } else p

/-- `FetchPhase(k)` (R425). -/
def fetchPhase (k : Nat) (s : State) : State :=
  match k with
  | 0 => fetchTileId (s.mapPpu loadBgShifters)
  | 2 => fetchAttr s
  | 4 => fetchLsb s
  | 6 => fetchMsb s
  | 7 => s.mapPpu incrementScrollX
  | _ => s

/-- Cycles 2 to 257 and 321 to 337 (R420). -/
def Ppu.fetchWindow (p : Ppu) : Bool := decide ((2 ≤ p.cycle ∧ p.cycle ≤ 257) ∨ (321 ≤ p.cycle ∧ p.cycle ≤ 337))

/-- The shifts and the fetch phase of a cycle in the fetch window (R420). -/
def pipelineStep (s : State) : State :=
  if s.ppu.fetchWindow then
    fetchPhase ((s.ppu.cycle - 1) % 8) ((s.mapPpu shiftBackground).mapPpu shiftSprites)
  else s

/-- `IncrementScrollY()` at cycle 256 (R420). -/
def atCycle256 (p : Ppu) : Ppu := if p.cycle = 256 then incrementScrollY p else p

/-- `LoadBgShifters(); TransferX()` at cycle 257 (R420, R432). -/
def atCycle257 (p : Ppu) : Ppu := if p.cycle = 257 then transferX (loadBgShifters p) else p

/-- `FetchTileId()` at cycles 338 and 340 (R420, R434). -/
def primeTileId (s : State) : State := if s.ppu.cycle = 338 ∨ s.ppu.cycle = 340 then fetchTileId s else s

/-- `TransferY()` in cycles 280 to 304 of the pre-render scanline (R420, R433). -/
def preRenderTransferY (p : Ppu) : Ppu :=
  if p.preRenderLine ∧ 280 ≤ p.cycle ∧ p.cycle ≤ 304 then transferY p else p

/-- `(scanline + SPRITE_EVAL_OFFSET) - y`, signed (R440, R442). -/
def spriteDiff (offset : Nat) (p : Ppu) (y : Byte) : Int := p.scanline + offset - y.toNat

/-- OAM entry `n` qualifies for the evaluated scanline (R440). -/
def qualifies (offset : Nat) (p : Ppu) (n : Nat) : Bool :=
  let diff := spriteDiff offset p (p.oam.read (4 * n))
  decide (0 ≤ diff ∧ diff < p.spriteHeight)

/-- The numbers of the qualifying entries, in index order (R440). -/
def qualifying (offset : Nat) (p : Ppu) : List Nat := (List.range 64).filter (qualifies offset p)

/-- The slot OAM entry `n` is copied into (R440). -/
def loadSlot (oam : Memory) (n : Nat) : Slot :=
  { emptySlot with y := oam.read (4 * n), id := oam.read (4 * n + 1), attr := oam.read (4 * n + 2),
                   x := oam.read (4 * n + 3) }

/-- `EvaluateSprites()` (R440, R441). -/
def evaluateSprites (offset : Nat) (p : Ppu) : Ppu :=
  let found := qualifying offset p
  let chosen := found.take 8
  { p with sprCount := chosen.length,
           slots := chosen.map (loadSlot p.oam) ++ List.replicate (8 - chosen.length) emptySlot,
           spr0Possible := chosen.contains 0,
           spriteOverflow := decide (8 < found.length) }

/-- `EvaluateSprites()` at cycle 257 of the visible scanlines (R420). -/
def evaluateAt257 (s : State) : State :=
  if s.ppu.cycle = 257 ∧ 0 ≤ s.ppu.scanline then s.mapPpu (evaluateSprites s.params.spriteEvalOffset) else s

/-- `SpriteRowAddress(s, row)` (R443); `row` is kept in 16 bits of two's complement, of which `PpuRead` uses 14. -/
def spriteRowAddr (p : Ppu) (sl : Slot) (row : Int) : Word :=
  let r16 := BitVec.ofInt 16 row
  let flip := sl.attr.getLsbD 7
  if p.spriteSize then
    let half := if row < 8 then flip else !flip
    let r := if flip then 7 - (r16 &&& 7) else r16 &&& 7
    ((sl.id &&& 0x01).setWidth 16 <<< 12) |||
      (((sl.id &&& 0xFE).setWidth 16 + (bitByte half).setWidth 16) <<< 4) ||| r
  else
    let r := if flip then 7 - r16 else r16
    ((bitByte p.patternSprite).setWidth 16 <<< 12) ||| (sl.id.setWidth 16 <<< 4) ||| r

/-- A pattern byte, its bits reversed for a horizontally flipped sprite (R442, R444). -/
def flipX (sl : Slot) (b : Byte) : Byte := if sl.attr.getLsbD 6 then reverse8 b else b

/-- The pattern fetch of one slot (R442). -/
def fetchSlot (sl : Slot) (s : State) : Slot × State :=
  let a := spriteRowAddr s.ppu sl (spriteDiff s.params.spriteEvalOffset s.ppu sl.y)
  let lo := ppuRead a s
  let hi := ppuRead (a + 8) lo.2
  ({ sl with lo := flipX sl lo.1, hi := flipX sl hi.1 }, hi.2)

/-- The pattern fetches of the first `n` slots, in order (R442). -/
def fetchSlots : Nat → List Slot → State → List Slot × State
  | 0, l, s => (l, s)
  | _ + 1, [], s => ([], s)
  | n + 1, sl :: l, s =>
    let r := fetchSlot sl s
    let rest := fetchSlots n l r.2
    (r.1 :: rest.1, rest.2)

/-- `FetchSpritePatterns()` at cycle 340 (R420, R442). -/
def fetchSpritePatterns (s : State) : State :=
  if s.ppu.cycle = 340 then
    let r := fetchSlots s.ppu.sprCount s.ppu.slots s
    r.2.setPpu { r.2.ppu with slots := r.1 }
  else s

/-- The steps of the visible and pre-render scanlines, in the order of R420. -/
def renderSteps (s : State) : State :=
  let s := pipelineStep ((s.mapPpu oddFrameSkip).mapPpu preRenderClear)
  let s := primeTileId ((s.mapPpu atCycle256).mapPpu atCycle257)
  fetchSpritePatterns (evaluateAt257 (s.mapPpu preRenderTransferY))

/-- `SetVBlank()` at scanline 241, cycle 1 (R460). -/
def setVBlank (p : Ppu) : Ppu :=
  if p.scanline = 241 ∧ p.cycle = 1 then
    { p with verticalBlank := true, nmiPending := p.nmiPending || p.enableNmi }
  else p

/-- The 2-bit background pixel and its palette (R450). -/
def Ppu.bgPixel (p : Ppu) : BitVec 2 × BitVec 2 :=
  if p.renderBackground ∧ (p.renderBackgroundLeft ∨ 9 ≤ p.cycle) then
    let b := 15 - p.fineX.toNat
    (BitVec.ofBool (p.bgPatHi.getLsbD b) ++ BitVec.ofBool (p.bgPatLo.getLsbD b),
     BitVec.ofBool (p.bgAttHi.getLsbD b) ++ BitVec.ofBool (p.bgAttLo.getLsbD b))
  else (0, 0)

/-- A sprite pixel found by the scan of the slots (R451). -/
structure FgPixel where
  pixel : BitVec 2
  palette : BitVec 2
  front : Bool
  /-- It came from slot 0. -/
  first : Bool
  deriving DecidableEq, Repr

/-- The leftmost pixel of a slot. -/
def Slot.pixel (s : Slot) : BitVec 2 := BitVec.ofBool (s.hi.getLsbD 7) ++ BitVec.ofBool (s.lo.getLsbD 7)

/-- The scan of the first `n` slots for one whose delay is zero and whose pixel is opaque, `first` while slot 0 is
the one looked at (R451). -/
def scanSlots (first : Bool) : Nat → List Slot → Option FgPixel
  | 0, _ => none
  | _ + 1, [] => none
  | n + 1, s :: l =>
    if s.x = 0 ∧ s.pixel ≠ 0 then
      some { pixel := s.pixel, palette := s.attr.extractLsb' 0 2, front := !s.attr.getLsbD 5, first := first }
    else scanSlots false n l

/-- Whether sprites are shown at this cycle (R451). -/
def Ppu.spritesShown (p : Ppu) : Bool := p.renderSprites && (p.renderSpritesLeft || decide (9 ≤ p.cycle))

/-- The foreground pixel (R451). -/
def Ppu.fgPixel (p : Ppu) : Option FgPixel := if p.spritesShown then scanSlots true p.sprCount p.slots else none

/-- `spr0_rendering` after the scan (R451). -/
def Ppu.scanZero (p : Ppu) : Bool :=
  if p.spritesShown then (match p.fgPixel with | some f => f.first | none => false) else p.spr0Rendering

/-- The resolved (palette, pixel) as the palette offset `(palette << 2) + pixel` (R452, R454). -/
def resolvePixel (bg : BitVec 2 × BitVec 2) (fg : Option FgPixel) : Byte :=
  match fg with
  | none => if bg.1 = 0 then 0 else (0#4 ++ bg.2 ++ bg.1)
  | some f => if bg.1 = 0 ∨ f.front then (1#4 ++ f.palette ++ f.pixel) else (0#4 ++ bg.2 ++ bg.1)

/-- Both layers are opaque and the hit's conditions hold (R453). -/
def Ppu.zeroHit (p : Ppu) : Bool :=
  decide (p.bgPixel.1 ≠ 0) && p.fgPixel.isSome && p.spr0Possible && p.scanZero && p.renderBackground &&
    p.renderSprites

/-- `ComposePixel()` in cycles 1 to 256 of the visible scanlines (R450 to R455). -/
def composePixel (s : State) : State :=
  if s.ppu.visibleLine ∧ 1 ≤ s.ppu.cycle ∧ s.ppu.cycle ≤ 256 then
    let p := s.ppu
    let r := ppuRead (0x3F00 + zext16 (resolvePixel p.bgPixel p.fgPixel)) s
    let s1 := r.2.setPpu { r.2.ppu with spr0Rendering := p.scanZero, spriteZeroHit := p.spriteZeroHit || p.zeroHit }
    if s.renderEnable then
      s1.setSink (some { x := p.cycle - 1, y := p.scanline.toNat, colour := r.1.extractLsb' 0 6 })
    else s1
  else s

/-- The RGBA value of an emitted pixel (R454), its width a DESIGN CHOICE (log entry 4). -/
def Pixel.rgba (p : Pixel) : BitVec 32 := Config.colourTable p.colour

/-- The mapper's scanline tick (R462). -/
def mapperTick (s : State) : State :=
  if s.ppu.visibleLine ∧ s.ppu.cycle = s.params.mapperTickCycle then s.setMapper s.cart.mapper.scanline else s

/-- `Advance()` (R463). -/
def advance (p : Ppu) : Ppu :=
  if p.cycle + 1 ≤ 340 then { p with cycle := p.cycle + 1 }
  else if p.scanline + 1 ≤ 260 then { p with cycle := 0, scanline := p.scanline + 1 }
  else { p with cycle := 0, scanline := -1, frameComplete := true, oddFrame := !p.oddFrame }

/-- `PpuClock()` (R420). -/
def ppuClock (s : State) : State :=
  let s := if s.ppu.renderLine then renderSteps s else s
  (mapperTick (composePixel (s.mapPpu setVBlank))).mapPpu advance

end Sys2Proof.Machine
end

