-- ==== Sys2Proof/Machine/Bus.lean ====
section
/-! DEFINITION. The CPU step, the OAM DMA engine, interrupt delivery, the bus tick and the placing of an instruction
where the next tick fetches it (`40_addressing_modes.md` R230, `51_bus_clock_dma.md`). -/
namespace Sys2Proof.Machine

/-- The bytes of a fetched instruction (those it does not have are 0) and the state after the fetch. -/
structure FetchResult where
  opcode : Byte
  b1 : Byte
  b2 : Byte
  state : State
  deriving DecidableEq, Repr

/-- One operand byte: `MemRead(PC, 1)`, then PC + 1 (`40_addressing_modes.md` R234 to R246, and R233 with R250 for the
operand of IMM, log entry 13). -/
def fetchByte (s : State) : Byte × State :=
  let r := memRead s.cpu.pc s
  (r.1, r.2.setPc (r.2.cpu.pc + 1))

/-- PC moved past an operand byte with no bus read (R233). The byte that stands there is in the answer for the decoded
instruction alone, and nothing a read would change is changed. -/
def passByte (s : State) : Byte × State := ((memRead s.cpu.pc s).1, s.setPc (s.cpu.pc + 1))

/-- An instruction makes no read of its operand byte: its mode is IMM, which reads nothing itself (R233), and its
operation, XXX, does not call `Operand()` (R250). Every documented operation with an IMM row calls it (R206). -/
def operandByteUnread (e : TableEntry) : Bool := decide (e.mode = .imm ∧ e.op = .xxx)

/-- The opcode read, P.U set, PC + 1 (R230). -/
def fetchOpcode (s : State) : Byte × State :=
  let r := memRead s.cpu.pc s
  let s1 := (r.2.setOpcode r.1).setFlag .u true
  (r.1, s1.setPc (s1.cpu.pc + 1))

/-- The opcode and the operand bytes its mode takes, read in address order with the side effects of each read
(R230, R256 (1) and (2), `30_encoding.md` R213). The read that IMM defers to `Operand()` (R256 (4)) is made here for the
operations that call it, nothing standing between, and not made for one that does not (log entry 13). -/
def fetch (s : State) : FetchResult :=
  let op := fetchOpcode s
  let e := s.params.entry op.1
  match e.mode.length with
  | 1 => { opcode := op.1, b1 := 0, b2 := 0, state := op.2 }
  | 2 =>
    let r1 := if operandByteUnread e then passByte op.2 else fetchByte op.2
    { opcode := op.1, b1 := r1.1, b2 := 0, state := r1.2 }
  | _ =>
    let r1 := fetchByte op.2
    let r2 := fetchByte r1.2
    { opcode := op.1, b1 := r1.1, b2 := r2.1, state := r2.2 }

/-- The end of a fetch step: P.U set, and one cycle taken off where `FETCH_STEP_DECREMENTS` is set (R230). -/
def endFetchStep (s : State) : State :=
  let s1 := s.setFlag .u true
  if s1.params.fetchStepDecrements then s1.setCycles (s1.cpu.cycles - 1) else s1

/-- A result followed by a total step. -/
def thenDo (f : State → State) : Result → Result
  | .next s => .next (f s)
  | .fault r => .fault r
  | .refused r => .refused r

/-- The fetch step: a whole instruction (R230). -/
def fetchStep (s : State) : Result :=
  let f := fetch s
  thenDo endFetchStep (exec (decodeBytes s.params f.opcode f.b1 f.b2) f.state)

/-- `step()` of the CPU (R230): a fetch step when `cycles` is 0, an idle step otherwise. -/
def cpuStep (s : State) : Result :=
  if s.cpu.cycles = 0 then fetchStep s else .next (s.setCycles (s.cpu.cycles - 1))

/-- The end of the transfer when the cursor wraps (`51_bus_clock_dma.md` R486, R490). -/
def Dma.afterWrite (d : Dma) : Dma :=
  if d.addr + 1 = 0x00 then { d with addr := 0x00, transfer := false, idle := true } else { d with addr := d.addr + 1 }

/-- `DmaStep()` (`51_bus_clock_dma.md` R486): waits for an odd slot, then reads in even slots and writes in odd
ones. -/
def dmaStep (s : State) : State :=
  if s.dma.idle then (if s.clock % 2 = 1 then s.setDma { s.dma with idle := false } else s)
  else if s.clock % 2 = 0 then
    let r := memRead (pair s.dma.page s.dma.addr) s
    r.2.setDma { r.2.dma with data := r.1 }
  else
    (s.setPpu { s.ppu with oam := s.ppu.oam.write s.dma.addr.toNat s.dma.data }).setDma s.dma.afterWrite

/-- The CPU or DMA part of a tick (`51_bus_clock_dma.md` R481, R483, R485), from the state `u` the PPU's clock left:
while a transfer is in progress the DMA acts every `DMA_SLOT_PERIOD` ticks and the CPU is not clocked. Who acts is
read off the clock and the DMA registers at the start `s` of the tick, which the PPU's clock does not touch (R471). -/
def slotStep (s u : State) : Result :=
  if s.dma.transfer then .next (if s.clock % s.params.dmaSlotPeriod = 0 then dmaStep u else u)
  else if s.clock % 3 = 0 then cpuStep u
  else .next u

/-- NMI delivery (`51_bus_clock_dma.md` R492). -/
def deliverNmi (s : State) : State :=
  if s.ppu.nmiPending then nmi (s.setPpu { s.ppu with nmiPending := false }) else s

/-- IRQ delivery: the mapper's flag is cleared whether or not the CPU accepts (`51_bus_clock_dma.md` R492). -/
def deliverIrq (s : State) : State :=
  if s.cart.mapper.irqState then irq (s.setMapper s.cart.mapper.irqClear) else s

/-- What follows the CPU or DMA part of a tick: NMI, then IRQ, then the clock (`51_bus_clock_dma.md` R481). -/
def endTick (s : State) : State :=
  let s1 := deliverIrq (deliverNmi s)
  s1.setClock (s1.clock + 1)

/-- `tick()` (`51_bus_clock_dma.md` R481). The output port of the pixel sink is emptied first. -/
def tick (s : State) : Result := thenDo endTick (slotStep s (ppuClock (s.setSink none)))

/-- The byte `b` stored at CPU address `a` from outside, where `a` is backed by RAM, by a PRG byte of the image or
by cartridge RAM. -/
def placeByte (a : Word) (b : Byte) (s : State) : Option State :=
  match cpuMapRead s.cart a with
  | .offset o => if o < s.cart.prgSize then some (s.setCart { s.cart with prg := s.cart.prg.write o b }) else none
  | .produced _ => some (memWrite a b s)
  | .unclaimed => if a.toNat < 0x2000 then some (memWrite a b s) else none

/-- Three bytes stored at an address and after it, where all three are backed. -/
def placeBytes (a : Word) (b0 b1 b2 : Byte) (s : State) : Option State :=
  ((placeByte a b0 s).bind (placeByte (a + 1) b1)).bind (placeByte (a + 2) b2)

/-- The state in which the next tick is a CPU slot whose step fetches: no DMA in progress, `cycles` 0, the clock at
a CPU slot. -/
def readyToFetch (s : State) : State :=
  ((s.setDma { s.dma with transfer := false, idle := s.dma.idle || s.dma.transfer }).setCycles 0).setClock
    (s.clock - s.clock % 3)

/-- The three bytes stored where the next tick fetches: at PC, or at 0x0000 with PC moved there when PC is not in
memory a byte can be stored in. -/
def placeAtFetch (b0 b1 b2 : Byte) (s : State) : State :=
  let s1 := readyToFetch s
  match placeBytes s1.cpu.pc b0 b1 b2 s1 with
  | some s2 => s2
  | none => (placeBytes 0x0000 b0 b1 b2 (s1.setPc 0x0000)).getD s1

end Sys2Proof.Machine
end

