-- ==== Sys2Proof/Machine/Step.lean ====
section
/-! DEFINITION. One step of the block is one bus tick (`51_bus_clock_dma.md` R480, R500). -/
namespace Sys2Proof.Machine

/-- One step: `tick()` (R480: the only way time advances). -/
def step (s : State) : Host.Outcome State Fault Refusal := tick s

/-- The state `s` with the instruction whose bits are `w` (numbered as the opcode table numbers them, every bit from
`nbits` up 0) stored where the very next tick fetches it: log entry 6. -/
def State.withFetchWord (s : State) (nbits w : Nat) : State :=
  let x : BitVec 24 := BitVec.ofNat 24 (w % 2 ^ nbits)
  placeAtFetch (x.extractLsb' 0 8) (x.extractLsb' 8 8) (x.extractLsb' 16 8) s

end Sys2Proof.Machine
end

