-- ==== Sys2Proof/Machine/Frames.lean ====
section
/-! DEFINITION. The words the statements are written in: every byte of memory of the block by its place, where a CPU
store lands, and what bus reads alone may change. -/
namespace Sys2Proof.Machine

/-- A place in one of the block's byte arrays (`10_state.md` R35, R45, R60). -/
inductive Loc where
  | ram (k : Nat)
  | nt0 (k : Nat)
  | nt1 (k : Nat)
  | pal (k : Nat)
  | oam (k : Nat)
  | pt0 (k : Nat)
  | pt1 (k : Nat)
  | prg (k : Nat)
  | chr (k : Nat)
  | cram (k : Nat)
  deriving DecidableEq, Repr

/-- The cartridge RAM of a mapper, if its variant has one (`21_cartridge_mappers.md` R160, R180). -/
def Mapper.cram : Mapper → Memory
  | .serial m => m.cram
  | .target m => m.cram
  | _ => []

/-- Whether a variant has cartridge RAM. -/
def Mapper.hasCram : Mapper → Bool
  | .serial _ => true
  | .target _ => true
  | _ => false

/-- The byte at a place. -/
def State.byteAt (s : State) : Loc → Byte
  | .ram k => s.ram.read k
  | .nt0 k => s.ppu.nt0.read k
  | .nt1 k => s.ppu.nt1.read k
  | .pal k => s.ppu.pal.read k
  | .oam k => s.ppu.oam.read k
  | .pt0 k => s.ppu.pt0.read k
  | .pt1 k => s.ppu.pt1.read k
  | .prg k => s.cart.prg.read k
  | .chr k => s.cart.chr.read k
  | .cram k => s.cart.mapper.cram.read k

/-- The place a write at PPU address `v` lands in (`20_memory.md` R111 to R115). -/
def ppuStoreTarget (s : State) : Loc :=
  let k := s.ppu.v.toNat % 0x4000
  if k < 0x2000 then
    if s.cart.chrBanks = 0 then .chr k
    else if k < 0x1000 then .pt0 (k % 0x1000) else .pt1 (k % 0x1000)
  else if k < 0x3F00 then
    if ntSelect s.cart.mirroring (quadrantOf k) then .nt1 (k % 0x400) else .nt0 (k % 0x400)
  else .pal (palIndex k)

/-- The place in memory a CPU store at address `a` lands in, if it lands in one (`20_memory.md` R82, `50_ppu.md`
R414, R417): a store to a register of a device or of a mapper, to ROM or to an address nothing decodes lands in
none. -/
def storeTarget (a : Word) (s : State) : Option Loc :=
  if a.toNat < 0x2000 then some (.ram (a.toNat % 0x800))
  else if a.toNat < 0x4000 then
    match portOf a with
    | 4 => some (.oam s.ppu.oamAddr.toNat)
    | 7 => some (ppuStoreTarget s)
    | _ => none
  else if 0x6000 ≤ a.toNat ∧ a.toNat < 0x8000 ∧ s.cart.mapper.hasCram then some (.cram (a.toNat % 0x2000))
  else none

/-- Every byte of memory is as before. -/
def MemoryKept (s t : State) : Prop := ∀ l : Loc, t.byteAt l = s.byteAt l

/-- A store of `v` at the CPU address `a`, made in state `u` whose memory is that of `s`: the byte at the place the
store lands in is `v`, every other byte of memory is as it was in `s`. -/
def StoredAt (a : Word) (v : Byte) (u s t : State) : Prop :=
  (∀ l : Loc, storeTarget a u = some l → t.byteAt l = v) ∧
  (∀ l : Loc, storeTarget a u ≠ some l → t.byteAt l = s.byteAt l)

/-- Nothing outside the CPU is changed but what the side effects of bus reads can change (`20_memory.md` R99): the
status port's two bits, the data port's buffer and `v`, the controller latches, and the model's count of free
values. -/
def AfterReads (s t : State) : Prop :=
  t = { s with cpu := t.cpu, latch0 := t.latch0, latch1 := t.latch1, freeIndex := t.freeIndex,
               ppu := { s.ppu with verticalBlank := t.ppu.verticalBlank, addressLatch := t.ppu.addressLatch,
                                   dataBuffer := t.ppu.dataBuffer, v := t.ppu.v } }

/-- Of the CPU only the transients an addressing mode writes differ. -/
def TransientsOnly (s t : State) : Prop :=
  t.cpu = { s.cpu with addrAbs := t.cpu.addrAbs, addrRel := t.cpu.addrRel, fetched := t.cpu.fetched }

/-- Every flag outside the list is as before. -/
def FlagsKept (except : List Flag) (s t : State) : Prop := ∀ f : Flag, f ∉ except → t.flag f = s.flag f

/-- Z and N are those of `v`. -/
def ZNOf (v : Byte) (t : State) : Prop := t.flag .z = decide (v = 0x00) ∧ t.flag .n = v.getLsbD 7

/-- The register file of `t` is that of `c`: A, X, Y, SP, PC and the opcode byte. P and the transients are told
apart. -/
def RegistersAre (t : State) (c : Cpu) : Prop :=
  t.cpu.a = c.a ∧ t.cpu.x = c.x ∧ t.cpu.y = c.y ∧ t.cpu.sp = c.sp ∧ t.cpu.pc = c.pc ∧ t.cpu.opcode = c.opcode

/-- The counter holds `n`. -/
def Costs (n : Nat) (t : State) : Prop := t.cpu.cycles = BitVec.ofNat 8 n

/-- The opcode byte `e.1` with any bytes after it is the operation with the operand of mode `e.2.1`, and its base
cycle count is `e.2.2`, for every `e` of the list; and no other opcode byte is that operation; whatever the
parameters. -/
def HasEncodings (op : Op) (l : List (Byte × Mode × Nat)) : Prop :=
  (∀ e ∈ l, ∀ (p : Params) (b1 b2 : Byte), decodeBytes p e.1 b1 b2 = op.instr e.1 (Operand.ofBytes e.2.1 b1 b2) ∧
    baseCycles op e.2.1 = e.2.2) ∧
  (∀ (p : Params) (b : Byte), (p.entry b).op = op → b ∈ l.map Prod.fst)

end Sys2Proof.Machine
end

