-- ==== Sys2Proof/Machine/Interface.lean ====
section
/-! DEFINITION. What the host may do to the block between two ticks (`51_bus_clock_dma.md` R500 to R506,
`21_cartridge_mappers.md` R140 to R144): inputs, the frame flag, the reset button and the installing of a
cartridge. -/
namespace Sys2Proof.Machine

/-- The mapper a loader builds for a `MAPPER_ID`: the six known ids, and variant 0 for any other (R142, R144). Its
registers are at their reset values and its cartridge RAM is empty. -/
def Mapper.ofId (id : Nat) : Mapper :=
  match id with
  | 1 => .serial { load := 0, loadCount := 0, control := 0x0C, chrLo := 0, chrHi := 0, prg := 0, mirror := .hardware,
                   cram := [] }
  | 2 => .lowBank 0
  | 3 => .chrBank 0
  | 4 => .target { r0 := 0, r1 := 0, r2 := 0, r3 := 0, r4 := 0, r5 := 0, r6 := 0, r7 := 1, target := 0,
                   prgMode := false, chrInv := false, mirror := .hardware, irqActive := false, irqEnable := false,
                   irqCounter := 0, irqReload := 0, cram := [] }
  | 66 => .combined 0 0
  | _ => .fixed

/-- The load's report: whether the id is one of the six (R144). -/
def mapperKnown (id : Nat) : Bool := id = 0 ∨ id = 1 ∨ id = 2 ∨ id = 3 ∨ id = 4 ∨ id = 66

/-- A cartridge of given parameters (`00_scope.md` R11). -/
def Cartridge.ofParameters (prgBanks chrBanks id : Nat) (m : HwMirror) (prg chr : Memory) : Cartridge :=
  { prgBanks := prgBanks, chrBanks := chrBanks, hwMirror := m, prg := prg, chr := chr, mapper := Mapper.ofId id }

/-- The cartridges U18 allows: at least one program bank, images of the size of their bank counts
(`93_implementation_defined.md`). -/
def Cartridge.wf (c : Cartridge) : Bool :=
  decide (1 ≤ c.prgBanks) && c.prg.wf && c.prg.within c.prgSize && c.chr.wf && c.chr.within c.chrSize &&
    c.mapper.cram.wf && c.mapper.cram.within 0x2000

/-- The host installs a cartridge and performs the full reset (R504, `10_state.md` R70); a cartridge U18 does not
allow is refused. -/
def insertCartridge (c : Cartridge) (s : State) : Result :=
  if c.wf then .next (fullReset (s.setCart c)) else .refused .cartridgeRejected

/-- The reset button: a full reset with the same cartridge (R504). -/
def pressReset (s : State) : State := fullReset s

/-- The host writes the two controller bytes (R501). -/
def setControllers (c0 c1 : Byte) (s : State) : State := (s.setController0 c0).setController1 c1

/-- The host reads and clears the frame flag (R503). -/
def takeFrameComplete (s : State) : Bool × State :=
  (s.ppu.frameComplete, s.setPpu { s.ppu with frameComplete := false })

end Sys2Proof.Machine
end

