-- ==== Sys2Proof/Safety.lean ====
section
/-! DEFINITION. What counts as a state the block can be in, and as a run that nothing stops. -/
/-- The parameters' part: an undocumented opcode costs 1 to 8 cycles, which is what R29 bounds the counter by
(`10_state.md`; 2 to 8 by the default of `30_encoding.md` R208). -/
def Sys2Proof.Params.inv (p : Sys2Proof.Params) : Bool := p.undefCycles.all fun e => decide (1 ≤ e.2 ∧ e.2 ≤ 8)

namespace Sys2Proof.Machine

/-- The CPU's part of the invariant: U reads 1 (`10_state.md` R27) and the counter is at most 8 (R29). -/
def Cpu.inv (c : Cpu) : Bool := getFlag .u c.p && decide (c.cycles.toNat ≤ 8)

/-- The DMA's part: idle whenever no transfer is in progress (`20_memory.md` R89), the cursor at 0 while idle. -/
def Dma.inv (d : Dma) : Bool := (d.transfer || d.idle) && (!d.idle || decide (d.addr = 0))

/-- The PPU's part: the ranges of the counters and the sizes and the canonical form of its memories (`10_state.md`
R45, R48, R50). -/
def Ppu.inv (p : Ppu) : Bool :=
  decide (-1 ≤ p.scanline ∧ p.scanline ≤ 260) && decide (p.cycle ≤ 340) && decide (p.sprCount ≤ 8) &&
    decide (p.slots.length = 8) && p.nt0.wf && p.nt0.within 0x400 && p.nt1.wf && p.nt1.within 0x400 && p.pal.wf &&
    p.pal.within 32 && p.oam.wf && p.oam.within 256 && p.pt0.wf && p.pt0.within 0x1000 && p.pt1.wf &&
    p.pt1.within 0x1000

/-- The load count of variant 1 is 0 to 4 (`21_cartridge_mappers.md` R160). -/
def Mapper.inv : Mapper → Bool
  | .serial m => decide (m.loadCount ≤ 4)
  | _ => true

/-- The invariant of the block. -/
def State.inv (s : State) : Bool :=
  s.cpu.inv && s.ram.wf && s.ram.within 0x800 && s.dma.inv && s.ppu.inv && s.cart.wf && s.cart.mapper.inv &&
    s.params.inv

/-- Nothing stops the machine: every run of any length from `s` goes on. -/
def NeverStops (s : State) : Prop := ∀ k : Nat, ∃ t : State, Sys2Proof.core.run k s = .next t

end Sys2Proof.Machine
end

