-- ==== Sys2Proof/Machine/Claims.lean ====
section
/-! DEFINITION. The forms the statements about instructions share: what it is to complete with changes to the CPU
alone, with reads, with one store, with pushes, and to enter an interrupt. -/
namespace Sys2Proof.Machine

/-- Outside the CPU the state `t` is `u`. -/
def OutsideCpuAs (u t : State) : Prop := t = { u with cpu := t.cpu }

/-- The place of the byte a stack pointer of value `sp` designates (`10_state.md` R23). -/
def stackLoc (sp : Byte) : Loc := .ram (0x100 + sp.toNat)

/-- The places of the list hold the bytes of the list, every other byte of memory is as it was in `s`. -/
def StoresAre (l : List (Loc × Byte)) (s t : State) : Prop :=
  (∀ e ∈ l, t.byteAt e.1 = e.2) ∧ (∀ k : Loc, k ∉ l.map Prod.fst → t.byteAt k = s.byteAt k)

/-- `i` completes from `s` with changes to the CPU alone: the register file is then `c`, the flags outside `written`
are kept, the counter holds `n`, and `more` holds. -/
def CompletesInCpu (i : Instr) (s : State) (c : Cpu) (written : List Flag) (n : Nat) (more : State → Prop) : Prop :=
  ∃ t : State, exec i s = .next t ∧ RegistersAre t c ∧ FlagsKept written s t ∧ more t ∧ OutsideCpuAs s t ∧
    MemoryKept s t ∧ Costs n t

/-- `i` completes from `s` and reads its operand `o`: as `CompletesInCpu`, but that the reads of the mode and of the
operand have been made, with their side effects and no others. -/
def CompletesReading (i : Instr) (o : Operand) (s : State) (c : Cpu) (written : List Flag) (n : Nat)
    (more : State → Prop) : Prop :=
  ∃ t : State, exec i s = .next t ∧ RegistersAre t c ∧ FlagsKept written s t ∧ more t ∧
    OutsideCpuAs (readOperand o s).state t ∧ AfterReads s t ∧ MemoryKept s t ∧ Costs n t

/-- `i` completes from `s` with one store of `v` at the address `a` in the state `u` its reads leave: nothing outside
the CPU differs from what that one bus write makes of `u`, and of the bytes of memory only the one the store lands in
is written. -/
def CompletesStoring (i : Instr) (s u : State) (a : Word) (v : Byte) (c : Cpu) (written : List Flag) (n : Nat)
    (more : State → Prop) : Prop :=
  ∃ t : State, exec i s = .next t ∧ RegistersAre t c ∧ FlagsKept written s t ∧ more t ∧
    OutsideCpuAs (memWrite a v u) t ∧ AfterReads s u ∧ (s.inv = true → StoredAt a v u s t) ∧ Costs n t

/-- `i` completes from `s` with pushes alone: outside the CPU only work RAM changes, at the places of `stores`. -/
def CompletesPushing (i : Instr) (s : State) (stores : List (Loc × Byte)) (c : Cpu) (written : List Flag) (n : Nat)
    (more : State → Prop) : Prop :=
  ∃ t : State, exec i s = .next t ∧ RegistersAre t c ∧ FlagsKept written s t ∧ more t ∧
    t = { s with cpu := t.cpu, ram := t.ram } ∧ (s.inv = true → StoresAre stores s t) ∧ Costs n t

/-- `t` is what an interrupt entry makes of `s`: three bytes on the stack (the address `ret` high then low, the
status `image`), SP down by three, I set, PC the word at `vector`, and nothing else outside the CPU but the count of
free values that a vector outside the program image draws from (log entry 3). -/
def EntersInterrupt (ret : Word) (image : Byte) (vector : Word) (s t : State) : Prop :=
  RegistersAre t { s.cpu with sp := s.cpu.sp - 3, pc := (memRead16 vector s).1 } ∧ t.flag .i = true ∧
    t = { s with cpu := t.cpu, ram := t.ram, freeIndex := t.freeIndex } ∧
    (s.inv = true → StoresAre [(stackLoc s.cpu.sp, hi8 ret), (stackLoc (s.cpu.sp - 1), lo8 ret),
      (stackLoc (s.cpu.sp - 2), image)] s t)

/-- The shift or rotate `i` in its five forms: the result is `f carry m` modulo 256 for the operand `m`, C is then
`out m`, Z and N are of the result, and the result goes to A or, in the memory forms, to the address it was read
from. -/
def ShiftsBy (i : Operand → Instr) (op : Op) (f : Bool → Byte → Nat) (out : Byte → Bool) : Prop :=
  (∀ s : State,
    let r : Byte := BitVec.ofNat 8 (f (s.flag .c) s.cpu.a)
    CompletesInCpu (i .imp) s { s.cpu with a := r } [.c, .z, .n] 2
      (fun t => ZNOf r t ∧ t.flag .c = out s.cpu.a)) ∧
  (∀ (o : Operand) (s : State), o ≠ .imp →
    let m := readOperand o s
    let r : Byte := BitVec.ofNat 8 (f (s.flag .c) m.value)
    CompletesStoring (i o) s m.state m.state.cpu.addrAbs r s.cpu [.c, .z, .n] (baseCycles op o.mode)
      (fun t => ZNOf r t ∧ t.flag .c = out m.value))

/-- The branch `i` is taken when flag `f` is `v`: to PC plus the signed offset, at 3 cycles, 4 when the target lies in
another page than the byte after the branch; not taken it costs 2 and leaves PC there. -/
def BranchesWhen (i : Operand → Instr) (f : Flag) (v : Bool) : Prop :=
  ∀ (b : Byte) (s : State),
    let target : Word := BitVec.ofInt 16 (s.cpu.pc.toNat + b.toInt)
    (s.flag f = v →
      CompletesInCpu (i (.rel b)) s { s.cpu with pc := target } []
        (if target.toNat / 256 = s.cpu.pc.toNat / 256 then 3 else 4) (fun _ => True)) ∧
    (s.flag f ≠ v → CompletesInCpu (i (.rel b)) s s.cpu [] 2 (fun _ => True))

/-- The undocumented opcodes with their base cycles, as `30_encoding.md` R208 lists them. -/
def undefCycleList : List (Nat × List Byte) := [
  (2, [0x02, 0x0B, 0x12, 0x1A, 0x22, 0x2B, 0x32, 0x3A, 0x42, 0x4B, 0x52, 0x5A, 0x62, 0x6B, 0x72, 0x7A, 0x80, 0x82,
    0x89, 0x8B, 0x92, 0xAB, 0xB2, 0xC2, 0xCB, 0xD2, 0xDA, 0xE2, 0xEB, 0xF2, 0xFA]),
  (3, [0x04, 0x44, 0x64, 0x87, 0xA7]),
  (4, [0x0C, 0x14, 0x1C, 0x34, 0x3C, 0x54, 0x5C, 0x74, 0x7C, 0x8F, 0x97, 0xAF, 0xB7, 0xBB, 0xBF, 0xD4, 0xDC, 0xF4,
    0xFC]),
  (5, [0x07, 0x27, 0x47, 0x67, 0x9B, 0x9C, 0x9E, 0x9F, 0xB3, 0xC7, 0xE7]),
  (6, [0x0F, 0x17, 0x2F, 0x37, 0x4F, 0x57, 0x6F, 0x77, 0x83, 0x93, 0xA3, 0xCF, 0xD7, 0xEF, 0xF7]),
  (7, [0x1B, 0x1F, 0x3B, 0x3F, 0x5B, 0x5F, 0x7B, 0x7F, 0xDB, 0xDF, 0xFB, 0xFF]),
  (8, [0x03, 0x13, 0x23, 0x33, 0x43, 0x53, 0x63, 0x73, 0xC3, 0xD3, 0xE3, 0xF3])]

/-- The 23 opcodes that can cost one more than their base (`40_addressing_modes.md` R257). -/
def extraCycleOpcodes : List Byte := [
  0x7D, 0x79, 0x71, 0x3D, 0x39, 0x31, 0xDD, 0xD9, 0xD1, 0x5D, 0x59, 0x51, 0xBD, 0xB9, 0xB1, 0xBE, 0xBC, 0x1D, 0x19,
  0x11, 0xFD, 0xF9, 0xF1]

/-- DMA slots in a row, the clock moving on by the three ticks of each, with nothing else acting. -/
def dmaSlots : Nat → State → State
  | 0, s => s
  | n + 1, s => dmaSlots n ((dmaStep s).setClock (s.clock + 3))

/-- The number of a position in the frame, 0 to 89341 (`50_ppu.md` R421). -/
def Ppu.position (p : Ppu) : Int := (p.scanline + 1) * 341 + p.cycle

/-- The odd-frame skip applies (`50_ppu.md` R422). -/
def Ppu.skips (p : Ppu) : Bool :=
  decide (p.scanline = 0) && decide (p.cycle = 0) && p.oddFrame && (p.renderBackground || p.renderSprites)

/-- The nametable the cartridge's mirroring mode shows in quadrant `q`, 0 or 1 (`20_memory.md` R114): a register of
variant 1 or 4 gives the mode, or the cartridge's own wiring where it says HARDWARE or the variant has none. -/
def State.nametable (s : State) (q : Nat) : Nat :=
  let wired := match s.cart.hwMirror with
    | .vertical => q % 2
    | .horizontal => q / 2
  let given := fun m : Mirroring => match m with
    | .hardware => wired
    | .vertical => q % 2
    | .horizontal => q / 2
    | .onescreenLo => 0
    | .onescreenHi => 1
  match s.cart.mapper with
  | .serial m => given m.mirror
  | .target m => given m.mirror
  | _ => wired

/-- The place of the byte at PPU address `n` below 0x4000, character ROM aside (`20_memory.md` R111 to R115). -/
def State.ppuPlace (s : State) (n : Nat) : Loc :=
  if n < 0x2000 then
    if s.cart.chrBanks = 0 then .chr n else if n < 0x1000 then .pt0 n else .pt1 (n - 0x1000)
  else if n < 0x3F00 then
    if s.nametable (n / 0x400 % 4) = 1 then .nt1 (n % 0x400) else .nt0 (n % 0x400)
  else .pal (if n % 32 = 16 ∨ n % 32 = 20 ∨ n % 32 = 24 ∨ n % 32 = 28 then n % 32 - 16 else n % 32)

/-- The PPU address of the low plane of row `row` of a sprite: `tall` 8x16 or 8x8, `table` the table of 8x8 sprites,
`id` its tile, `flip` its vertical flip (`50_ppu.md` R443). -/
def spriteRowPlace (tall table : Bool) (id : Nat) (flip : Bool) (row : Nat) : Nat :=
  let line := if flip = true then 7 - row % 8 else row % 8
  if tall = true then
    0x1000 * (id % 2) + 16 * (id / 2 * 2 + if (8 ≤ row) = (flip = true) then 0 else 1) + line
  else 0x1000 * table.toNat + 16 * id + line

/-- The eight bank registers of variant 4, in order (`21_cartridge_mappers.md` R180). -/
def TargetMapper.regs (m : TargetMapper) : List Byte := [m.r0, m.r1, m.r2, m.r3, m.r4, m.r5, m.r6, m.r7]

/-- `m` with the eight bank registers of `u`. -/
def TargetMapper.withRegsOf (m u : TargetMapper) : TargetMapper :=
  { m with r0 := u.r0, r1 := u.r1, r2 := u.r2, r3 := u.r3, r4 := u.r4, r5 := u.r5, r6 := u.r6, r7 := u.r7 }

end Sys2Proof.Machine
end

