-- ==== Sys2Proof/WellFormed.lean ====
section
/-! DEFINITION. Which terms of `Instr` are instructions of the hardware (`30_encoding.md` R206, R207). -/
namespace Sys2Proof

/-- Check 1: a documented operation has an opcode for the operand's mode (R206). -/
def Instr.modeAllowed (i : Instr) : Bool := (i.op.opcode i.operand.mode).isSome

/-- Check 2: the opcode of an `xxx` is one of the 105 undocumented bytes (R207). -/
def undocumented (opcode : Byte) : Bool := decide ((tableEntry opcode).op = .xxx)

/-- Check 3: the operand of an `xxx` has the mode the parameter `UNDEF_MODE` gives its opcode (R207). -/
def undefModeAgrees (p : Params) (opcode : Byte) (o : Operand) : Bool := decide ((p.entry opcode).mode = o.mode)

/-- The well-formed instructions, under the parameters `p`. -/
def Instr.wellFormed (p : Params) : Instr → Bool
  | .xxx opcode o => undocumented opcode && undefModeAgrees p opcode o
  | i => i.modeAllowed

end Sys2Proof
end

