-- ==== Sys2Proof/Certificates/Slice0/Obligations.lean ====
section
/-! DEFINITION. The statements about the model, for the provers. Each is a rule of the spec, or what follows from
several of them, said of every state it can hold of. A statement about `exec` speaks of an instruction whose own bytes
the fetch has read, with PC past them: the model's split of a fetch step (log entry 13, DEDUCED). -/
open Sys2Proof Sys2Proof.Machine

-- Encoding

/-- Words written out from `30_encoding.md` R206 and R208, one for each family, decode to what they stand for: documented opcodes under any parameters, an undocumented one under the
defaults. -/
def Obligations.WrittenWordsDecode : Prop := ∀ p : Params,
  decode p [0xA9#8, 0x80#8] = .ok (.lda (.imm 0x80), []) ∧ decode p [0x8D#8, 0x00#8, 0x02#8] = .ok (.sta (.abs 0x0200), []) ∧
  decode p [0xB6#8, 0xFF#8] = .ok (.ldx (.zpy 0xFF), []) ∧ decode p [0xAA#8] = .ok (.tax, []) ∧
  decode p [0x71#8, 0x10#8] = .ok (.adc (.izy 0x10), []) ∧ decode p [0xE1#8, 0x20#8] = .ok (.sbc (.izx 0x20), []) ∧
  decode p [0x2C#8, 0x02#8, 0x20#8] = .ok (.bit (.abs 0x2002), []) ∧ decode p [0xDE#8, 0xFF#8, 0x80#8] = .ok (.dec (.abx 0x80FF), []) ∧
  decode p [0x0A#8] = .ok (.asl .imp, []) ∧ decode p [0x76#8, 0x01#8] = .ok (.ror (.zpx 0x01), []) ∧
  decode p [0x6C#8, 0xFF#8, 0x30#8] = .ok (.jmp (.ind 0x30FF), []) ∧ decode p [0x20#8, 0x34#8, 0x12#8] = .ok (.jsr (.abs 0x1234), []) ∧
  decode p [0xD0#8, 0xFB#8] = .ok (.bne (.rel 0xFB), []) ∧ decode p [0x00#8] = .ok (.brk, []) ∧ decode p [0x40#8] = .ok (.rti, []) ∧
  decode p [0x28#8] = .ok (.plp, []) ∧ decode p [0xF8#8] = .ok (.sed, []) ∧ decode standardParams [0x04#8] = .ok (.xxx 0x04 .imp, []) ∧
  decode p [0x99#8, 0x01#8] = .error (.truncated 0x99) ∧ decode p [] = .error .empty

/-- Every well-formed instruction has bytes, and they decode to it again with nothing left over, whatever follows
them, under any parameters. -/
def Obligations.DecodeOfEncodeIsTheInstruction : Prop :=
  ∀ (p : Params) (i : Instr) (rest : List Byte), i.wellFormed p = true →
    ∃ bytes : List Byte, encode i = some bytes ∧ decode p (bytes ++ rest) = .ok (i, rest)

/-- Decoding is total and one to one: three bytes always begin with an instruction, which is well-formed, and its
bytes are the ones it was read from (`30_encoding.md` R200, R201, R203), under any parameters. -/
def Obligations.EncodeOfDecodeIsTheBytes : Prop :=
  ∀ (p : Params) (b0 b1 b2 : Byte) (rest : List Byte), ∃ (i : Instr) (bytes left : List Byte),
    decode p (b0 :: b1 :: b2 :: rest) = .ok (i, left) ∧ i.wellFormed p = true ∧ encode i = some bytes ∧
      bytes ++ left = b0 :: b1 :: b2 :: rest ∧ bytes.length = (p.entry b0).mode.length

-- The step

/-- A tick in a CPU slot with `cycles` 0 and no DMA runs the instruction at PC (`40_addressing_modes.md` R230,
`51_bus_clock_dma.md` R481). First for any PC, through the model's fetch; then with the bytes at PC in view, where
reading them has no side effect: P.U is set, PC is moved past the instruction's own bytes and the opcode register
holds the first of them before `exec`, and the end of the fetch step and of the tick follow it. Last, what the end of
a fetch step is: U set and, only where `FETCH_STEP_DECREMENTS` is set, one cycle off (decision D5); and what the fetch is: one bus read for each byte of the
instruction, in address order, but no read of the byte of an undocumented opcode that `UNDEF_MODE` puts in mode IMM
(R233, R250, R256), the decoded bytes those that stand there, and of the CPU only PC, U and the opcode register. That
the read of a documented instruction's IMM byte is made by the fetch is the model's choice (log entry 13, DEDUCED): R233
and R250 place it in `Operand()`. -/
def Obligations.StepRunsTheDecodedInstruction : Prop :=
  (∀ s : State, s.dma.transfer = false → s.clock % 3 = 0 → s.cpu.cycles = 0 →
    let u := ppuClock { s with sink := none }
    (step s = thenDo endTick (thenDo endFetchStep
      (exec (decodeBytes s.params (fetch u).opcode (fetch u).b1 (fetch u).b2) (fetch u).state))) ∧
    ∀ (b0 b1 b2 : Byte) (i : Instr) (rest : List Byte),
      memRead u.cpu.pc u = (b0, u) → memRead (u.cpu.pc + 1) u = (b1, u) → memRead (u.cpu.pc + 2) u = (b2, u) →
      decode s.params [b0, b1, b2] = .ok (i, rest) →
      step s = thenDo endTick (thenDo endFetchStep (exec i
        { u with cpu := { u.cpu with opcode := b0, p := u.cpu.p ||| 0x20,
                                     pc := u.cpu.pc + BitVec.ofNat 16 (3 - rest.length) } }))) ∧
  (∀ s : State, endFetchStep s =
    { s with cpu := { s.cpu with p := s.cpu.p ||| 0x20,
                                 cycles := if s.params.fetchStepDecrements = true then s.cpu.cycles - 1
                                           else s.cpu.cycles } }) ∧
  (∀ s : State,
    let op := memRead s.cpu.pc s
    let one := memRead (s.cpu.pc + 1) op.2
    let two := memRead (s.cpu.pc + 2) one.2
    let e := s.params.entry op.1
    let f := fetch s
    f.state.cpu = { s.cpu with opcode := op.1, p := s.cpu.p ||| 0x20, pc := s.cpu.pc + BitVec.ofNat 16 e.mode.length } ∧
    f.opcode = op.1 ∧ (2 ≤ e.mode.length → f.b1 = one.1) ∧ (e.mode.length = 3 → f.b2 = two.1) ∧
    OutsideCpuAs (if e.mode.length = 1 ∨ (e.op = .xxx ∧ e.mode = .imm) then op.2
      else if e.mode.length = 2 then one.2 else two.2) f.state)

/-- The order of a tick and the clock ratio (`51_bus_clock_dma.md` R481, R483, R485; decisions D20, D21): the PPU
first, then in a CPU slot one step of the CPU, idle while `cycles` is not 0, or one action of the DMA engine while a
transfer is in progress, then what ends the tick; in the other ticks neither acts. That who acts is read off the state
before the PPU's clock, and not after it, is log entry 22 (DEDUCED). -/
def Obligations.TickOrderAndClockRatio : Prop :=
  ∀ s : State, let u := ppuClock { s with sink := none }
    (s.dma.transfer = false → s.clock % 3 ≠ 0 → step s = .next (endTick u)) ∧
    (s.dma.transfer = false → s.clock % 3 = 0 → s.cpu.cycles ≠ 0 →
      step s = .next (endTick { u with cpu := { u.cpu with cycles := u.cpu.cycles - 1 } })) ∧
    (s.dma.transfer = true → s.clock % s.params.dmaSlotPeriod = 0 → step s = .next (endTick (dmaStep u))) ∧
    (s.dma.transfer = true → s.clock % s.params.dmaSlotPeriod ≠ 0 → step s = .next (endTick u))

/-- Every step raises the clock by one (`10_state.md` R38), and no interrupt request outlives the tick that raised
it: after every step both sources are clear (`51_bus_clock_dma.md` R492). -/
def Obligations.StepsAdvanceTheClockAndClearRequests : Prop :=
  ∀ s t : State, step s = .next t →
    t.clock = s.clock + 1 ∧ t.ppu.nmiPending = false ∧ t.cart.mapper.irqState = false

-- Invariants

/-- The reset state meets the invariant. -/
def Obligations.ResetMeetsTheInvariant : Prop := State.reset.inv = true

/-- Every step keeps the invariant: U is 1 and the counter at most 8 (`10_state.md` R27, R29), the DMA idle when no
transfer is in progress, the PPU's counters and slots in range, every memory in its canonical form and within its
size, the cartridge well-formed. -/
def Obligations.StepKeepsTheInvariant : Prop :=
  ∀ s t : State, s.inv = true → step s = .next t → t.inv = true

/-- Nothing stops the machine, from any state at all: no step faults and none is refused (`40_addressing_modes.md`
R259, `60_exceptions.md` R521). The runs are without calls of the host (log entry 10). -/
def Obligations.NothingStopsTheMachine : Prop := ∀ s : State, NeverStops s

/-- No step writes the program image, the character image of a cartridge that has one, the cartridge's parameters,
the machine's parameters or the host's inputs (`21_cartridge_mappers.md` R147, R149, decision D60). -/
def Obligations.NoStepWritesTheCartridgeImages : Prop :=
  ∀ s t : State, step s = .next t →
    t.cart.prg = s.cart.prg ∧ t.cart.prgBanks = s.cart.prgBanks ∧ t.cart.chrBanks = s.cart.chrBanks ∧
      t.cart.hwMirror = s.cart.hwMirror ∧ (s.cart.chrBanks ≠ 0 → t.cart.chr = s.cart.chr) ∧ t.params = s.params ∧
      t.controller0 = s.controller0 ∧ t.controller1 = s.controller1 ∧ t.renderEnable = s.renderEnable

-- Addressing modes

/-- The addresses of the modes, in plain arithmetic (`40_addressing_modes.md` R232 to R240, R245, R246): zero-page sums
wrap in the zero page (decision D13), absolute ones modulo 65536; the pointers of IZX and IZY are two bytes of work RAM
in page zero, the high one at the next address modulo 256 (D13); only ABX, ABY and IZY report a page cross; no mode
writes anything of the CPU but `addr_abs`, `addr_rel` and `fetched`, and none but IND, which reads its pointer over
the whole bus, changes anything outside it. That a mode leaves PC alone and makes no read of the operand bytes is the
model's choice (log entry 13, DEDUCED): R233 to R246 have the mode functions advance PC, and R234 to R246 read those bytes
over the bus, which the model does in the fetch. -/
def Obligations.ModesComputeTheirAddress : Prop :=
  ∀ (b : Byte) (w : Word) (s : State),
    let word := fun n : Nat => (s.ram.read (n % 256)).toNat + 256 * (s.ram.read ((n + 1) % 256)).toNat
    (applyMode (.zp0 b) s).state.cpu.addrAbs.toNat = b.toNat ∧
    (applyMode (.zpx b) s).state.cpu.addrAbs.toNat = (b.toNat + s.cpu.x.toNat) % 256 ∧
    (applyMode (.zpy b) s).state.cpu.addrAbs.toNat = (b.toNat + s.cpu.y.toNat) % 256 ∧
    (applyMode (.abs w) s).state.cpu.addrAbs = w ∧
    (applyMode (.abx w) s).state.cpu.addrAbs.toNat = (w.toNat + s.cpu.x.toNat) % 65536 ∧
    (applyMode (.aby w) s).state.cpu.addrAbs.toNat = (w.toNat + s.cpu.y.toNat) % 65536 ∧
    (applyMode (.rel b) s).state.cpu.addrRel.toInt = b.toInt ∧
    (applyMode (.izx b) s).state.cpu.addrAbs.toNat = word (b.toNat + s.cpu.x.toNat) ∧
    (applyMode (.izy b) s).state.cpu.addrAbs.toNat = (word b.toNat + s.cpu.y.toNat) % 65536 ∧
    ((applyMode (.abx w) s).crossed = true ↔ 256 ≤ w.toNat % 256 + s.cpu.x.toNat) ∧
    ((applyMode (.aby w) s).crossed = true ↔ 256 ≤ w.toNat % 256 + s.cpu.y.toNat) ∧
    ((applyMode (.izy b) s).crossed = true ↔ 256 ≤ word b.toNat % 256 + s.cpu.y.toNat) ∧
    (∀ o : Operand,
      TransientsOnly s (applyMode o s).state ∧ AfterReads s (applyMode o s).state ∧
      (o.mode ≠ .ind → OutsideCpuAs s (applyMode o s).state) ∧
      ((applyMode o s).crossed = true → o.mode = .abx ∨ o.mode = .aby ∨ o.mode = .izy))

/-- The operand: the copy of A in mode IMP, the byte after the opcode in mode IMM, and in every other mode the byte a
bus read at the effective address returns, the read made once (`40_addressing_modes.md` R232, R233, R250). That nothing
outside the CPU changes in mode IMM is the model's choice (log entry 13, DEDUCED): R250 has `Operand()` read the bus there,
and the model makes that read in the fetch. -/
def Obligations.OperandIsTheByteAtTheEffectiveAddress : Prop :=
  ∀ (o : Operand) (s : State), let m := applyMode o s
    (o = .imp → (readOperand o s).value = s.cpu.a ∧ OutsideCpuAs s (readOperand o s).state) ∧
    (∀ b : Byte, o = .imm b → (readOperand o s).value = b ∧ OutsideCpuAs s (readOperand o s).state ∧
      (readOperand o s).state.cpu.addrAbs = s.cpu.pc - 1) ∧
    (o.mode ≠ .imp → o.mode ≠ .imm →
      (readOperand o s).value = (memRead m.state.cpu.addrAbs m.state).1 ∧
      OutsideCpuAs (memRead m.state.cpu.addrAbs m.state).2 (readOperand o s).state) ∧
    (readOperand o s).crossed = m.crossed

-- Loads, stores, transfers

/-- LDA, LDX and LDY: the operand goes to the register, Z and N are of it, the page-cross cycle is charged
(`41_load_store_transfer.md` R261 to R263). -/
def Obligations.LoadsPutTheOperandInTheirRegister : Prop :=
  (∀ (o : Operand) (s : State), let m := readOperand o s
    CompletesReading (.lda o) o s { s.cpu with a := m.value } [.z, .n] (baseCycles .lda o.mode + m.crossed.toNat)
      (ZNOf m.value) ∧
    CompletesReading (.ldx o) o s { s.cpu with x := m.value } [.z, .n] (baseCycles .ldx o.mode + m.crossed.toNat)
      (ZNOf m.value) ∧
    CompletesReading (.ldy o) o s { s.cpu with y := m.value } [.z, .n] (baseCycles .ldy o.mode + m.crossed.toNat)
      (ZNOf m.value)) ∧
  HasEncodings .lda [(0xA9, .imm, 2), (0xA5, .zp0, 3), (0xB5, .zpx, 4), (0xAD, .abs, 4), (0xBD, .abx, 4),
    (0xB9, .aby, 4), (0xA1, .izx, 6), (0xB1, .izy, 5)] ∧
  HasEncodings .ldx [(0xA2, .imm, 2), (0xA6, .zp0, 3), (0xB6, .zpy, 4), (0xAE, .abs, 4), (0xBE, .aby, 4)] ∧
  HasEncodings .ldy [(0xA0, .imm, 2), (0xA4, .zp0, 3), (0xB4, .zpx, 4), (0xAC, .abs, 4), (0xBC, .abx, 4)]

/-- STA, STX and STY: one bus write of the register at the effective address and no flag; the indexed forms cost
their base (`41_load_store_transfer.md` R264 to R266). -/
def Obligations.StoresWriteTheirRegisterOnce : Prop :=
  (∀ (o : Operand) (s : State), let u := (applyMode o s).state
    CompletesStoring (.sta o) s u u.cpu.addrAbs s.cpu.a s.cpu [] (baseCycles .sta o.mode) (fun _ => True) ∧
    CompletesStoring (.stx o) s u u.cpu.addrAbs s.cpu.x s.cpu [] (baseCycles .stx o.mode) (fun _ => True) ∧
    CompletesStoring (.sty o) s u u.cpu.addrAbs s.cpu.y s.cpu [] (baseCycles .sty o.mode) (fun _ => True)) ∧
  HasEncodings .sta [(0x85, .zp0, 3), (0x95, .zpx, 4), (0x8D, .abs, 4), (0x9D, .abx, 5), (0x99, .aby, 5),
    (0x81, .izx, 6), (0x91, .izy, 6)] ∧
  HasEncodings .stx [(0x86, .zp0, 3), (0x96, .zpy, 4), (0x8E, .abs, 4)] ∧
  HasEncodings .sty [(0x84, .zp0, 3), (0x94, .zpx, 4), (0x8C, .abs, 4)]

/-- The six transfers; TXS alone writes no flag (`41_load_store_transfer.md` R267 to R272). -/
def Obligations.TransfersCopyARegister : Prop :=
  (∀ s : State,
    CompletesInCpu .tax s { s.cpu with x := s.cpu.a } [.z, .n] 2 (ZNOf s.cpu.a) ∧
    CompletesInCpu .tay s { s.cpu with y := s.cpu.a } [.z, .n] 2 (ZNOf s.cpu.a) ∧
    CompletesInCpu .txa s { s.cpu with a := s.cpu.x } [.z, .n] 2 (ZNOf s.cpu.x) ∧
    CompletesInCpu .tya s { s.cpu with a := s.cpu.y } [.z, .n] 2 (ZNOf s.cpu.y) ∧
    CompletesInCpu .tsx s { s.cpu with x := s.cpu.sp } [.z, .n] 2 (ZNOf s.cpu.sp) ∧
    CompletesInCpu .txs s { s.cpu with sp := s.cpu.x } [] 2 (fun _ => True)) ∧
  HasEncodings .tax [(0xAA, .imp, 2)] ∧ HasEncodings .tay [(0xA8, .imp, 2)] ∧ HasEncodings .txa [(0x8A, .imp, 2)] ∧
  HasEncodings .tya [(0x98, .imp, 2)] ∧ HasEncodings .tsx [(0xBA, .imp, 2)] ∧ HasEncodings .txs [(0x9A, .imp, 2)]

-- Arithmetic, logic, compare, increment, decrement, shifts

/-- ADC as integers: the result is the sum modulo 256, C that it reached 256, V that the sum of the signed values
left the signed range, which is the rule's formula (`42_arithmetic_logic.md` R291; the V formula is decision D15). -/
def Obligations.AdcIsIntegerAddition : Prop :=
  (∀ (o : Operand) (s : State),
    let q := readOperand o s
    let sum := s.cpu.a.toNat + q.value.toNat + (s.flag .c).toNat
    let signed : Int := s.cpu.a.toInt + q.value.toInt + (s.flag .c).toNat
    let r : Byte := BitVec.ofNat 8 sum
    CompletesReading (.adc o) o s { s.cpu with a := r } [.c, .z, .v, .n]
      (baseCycles .adc o.mode + q.crossed.toNat)
      (fun t => ZNOf r t ∧ t.flag .c = decide (256 ≤ sum) ∧ t.flag .v = decide (signed < -128 ∨ 127 < signed) ∧
        t.flag .v = (~~~(s.cpu.a ^^^ q.value) &&& (s.cpu.a ^^^ r)).getLsbD 7)) ∧
  HasEncodings .adc [(0x69, .imm, 2), (0x65, .zp0, 3), (0x75, .zpx, 4), (0x6D, .abs, 4), (0x7D, .abx, 4),
    (0x79, .aby, 4), (0x61, .izx, 6), (0x71, .izy, 5)]

/-- SBC as integers: the result is A - m - (1 - C) modulo 256, C that there is no borrow, V that the difference of
the signed values left the signed range (`42_arithmetic_logic.md` R292; from general knowledge, by the spec's
mark). -/
def Obligations.SbcIsIntegerSubtraction : Prop :=
  (∀ (o : Operand) (s : State),
    let q := readOperand o s
    let borrow : Int := if s.flag .c = true then 0 else 1
    let diff : Int := s.cpu.a.toNat - q.value.toNat - borrow
    let signed : Int := s.cpu.a.toInt - q.value.toInt - borrow
    let r : Byte := BitVec.ofInt 8 diff
    CompletesReading (.sbc o) o s { s.cpu with a := r } [.c, .z, .v, .n]
      (baseCycles .sbc o.mode + q.crossed.toNat)
      (fun t => ZNOf r t ∧ t.flag .c = decide (0 ≤ diff) ∧ t.flag .v = decide (signed < -128 ∨ 127 < signed) ∧
        t.flag .v = ((s.cpu.a ^^^ q.value) &&& (s.cpu.a ^^^ r)).getLsbD 7)) ∧
  HasEncodings .sbc [(0xE9, .imm, 2), (0xE5, .zp0, 3), (0xF5, .zpx, 4), (0xED, .abs, 4), (0xFD, .abx, 4),
    (0xF9, .aby, 4), (0xE1, .izx, 6), (0xF1, .izy, 5)]

/-- The decimal flag never changes arithmetic: ADC and SBC with P.D written beforehand give what they give without,
but for P.D itself, and SED and CLD only store the bit (`42_arithmetic_logic.md` R290). -/
def Obligations.DecimalFlagNeverAltersArithmetic : Prop :=
  ∀ (o : Operand) (d : Bool) (s : State),
    exec (.adc o) (s.setFlag .d d) = thenDo (State.setFlag .d d) (exec (.adc o) s) ∧
    exec (.sbc o) (s.setFlag .d d) = thenDo (State.setFlag .d d) (exec (.sbc o) s) ∧
    CompletesInCpu .sed s s.cpu [.d] 2 (fun t => t.flag .d = true) ∧
    CompletesInCpu .cld s s.cpu [.d] 2 (fun t => t.flag .d = false)

/-- AND, ORA and EOR (`42_arithmetic_logic.md` R293 to R295). -/
def Obligations.LogicOperationsCombineWithA : Prop :=
  (∀ (o : Operand) (s : State), let m := readOperand o s
    CompletesReading (.and o) o s { s.cpu with a := s.cpu.a &&& m.value } [.z, .n]
      (baseCycles .and o.mode + m.crossed.toNat) (ZNOf (s.cpu.a &&& m.value)) ∧
    CompletesReading (.ora o) o s { s.cpu with a := s.cpu.a ||| m.value } [.z, .n]
      (baseCycles .ora o.mode + m.crossed.toNat) (ZNOf (s.cpu.a ||| m.value)) ∧
    CompletesReading (.eor o) o s { s.cpu with a := s.cpu.a ^^^ m.value } [.z, .n]
      (baseCycles .eor o.mode + m.crossed.toNat) (ZNOf (s.cpu.a ^^^ m.value))) ∧
  HasEncodings .and [(0x29, .imm, 2), (0x25, .zp0, 3), (0x35, .zpx, 4), (0x2D, .abs, 4), (0x3D, .abx, 4),
    (0x39, .aby, 4), (0x21, .izx, 6), (0x31, .izy, 5)] ∧
  HasEncodings .ora [(0x09, .imm, 2), (0x05, .zp0, 3), (0x15, .zpx, 4), (0x0D, .abs, 4), (0x1D, .abx, 4),
    (0x19, .aby, 4), (0x01, .izx, 6), (0x11, .izy, 5)] ∧
  HasEncodings .eor [(0x49, .imm, 2), (0x45, .zp0, 3), (0x55, .zpx, 4), (0x4D, .abs, 4), (0x5D, .abx, 4),
    (0x59, .aby, 4), (0x41, .izx, 6), (0x51, .izy, 5)]

/-- BIT, CMP, CPX and CPY write flags alone; N and V of BIT are bits of the memory byte, a compare leaves V alone
(`42_arithmetic_logic.md` R296 to R299). -/
def Obligations.TestsAndComparesWriteFlagsOnly : Prop :=
  (∀ (o : Operand) (s : State),
    let m := readOperand o s
    let compared := fun (r : Byte) (t : State) =>
      t.flag .c = decide (m.value.toNat ≤ r.toNat) ∧ t.flag .z = decide (r = m.value) ∧
        t.flag .n = decide (128 ≤ (r.toNat + 256 - m.value.toNat) % 256)
    CompletesReading (.bit o) o s s.cpu [.z, .v, .n] (baseCycles .bit o.mode)
      (fun t => t.flag .z = decide (s.cpu.a &&& m.value = 0) ∧ t.flag .n = m.value.getLsbD 7 ∧
        t.flag .v = m.value.getLsbD 6) ∧
    CompletesReading (.cmp o) o s s.cpu [.c, .z, .n] (baseCycles .cmp o.mode + m.crossed.toNat)
      (compared s.cpu.a) ∧
    CompletesReading (.cpx o) o s s.cpu [.c, .z, .n] (baseCycles .cpx o.mode) (compared s.cpu.x) ∧
    CompletesReading (.cpy o) o s s.cpu [.c, .z, .n] (baseCycles .cpy o.mode) (compared s.cpu.y)) ∧
  HasEncodings .bit [(0x24, .zp0, 3), (0x2C, .abs, 4)] ∧
  HasEncodings .cmp [(0xC9, .imm, 2), (0xC5, .zp0, 3), (0xD5, .zpx, 4), (0xCD, .abs, 4), (0xDD, .abx, 4),
    (0xD9, .aby, 4), (0xC1, .izx, 6), (0xD1, .izy, 5)] ∧
  HasEncodings .cpx [(0xE0, .imm, 2), (0xE4, .zp0, 3), (0xEC, .abs, 4)] ∧
  HasEncodings .cpy [(0xC0, .imm, 2), (0xC4, .zp0, 3), (0xCC, .abs, 4)]

/-- INC and DEC: one read and one write of the byte at the effective address (`42_arithmetic_logic.md` R300,
R301). -/
def Obligations.IncAndDecRewriteOneByte : Prop :=
  (∀ (o : Operand) (s : State),
    let m := readOperand o s
    let up : Byte := BitVec.ofNat 8 (m.value.toNat + 1)
    let down : Byte := BitVec.ofNat 8 (m.value.toNat + 255)
    CompletesStoring (.inc o) s m.state m.state.cpu.addrAbs up s.cpu [.z, .n] (baseCycles .inc o.mode) (ZNOf up) ∧
    CompletesStoring (.dec o) s m.state m.state.cpu.addrAbs down s.cpu [.z, .n] (baseCycles .dec o.mode)
      (ZNOf down)) ∧
  HasEncodings .inc [(0xE6, .zp0, 5), (0xF6, .zpx, 6), (0xEE, .abs, 6), (0xFE, .abx, 7)] ∧
  HasEncodings .dec [(0xC6, .zp0, 5), (0xD6, .zpx, 6), (0xCE, .abs, 6), (0xDE, .abx, 7)]

/-- INX, INY, DEX and DEY count modulo 256 (`42_arithmetic_logic.md` R302 to R305). -/
def Obligations.IndexRegistersCountModulo256 : Prop :=
  (∀ s : State,
    let up := fun r : Byte => (BitVec.ofNat 8 (r.toNat + 1) : Byte)
    let down := fun r : Byte => (BitVec.ofNat 8 (r.toNat + 255) : Byte)
    CompletesInCpu .inx s { s.cpu with x := up s.cpu.x } [.z, .n] 2 (ZNOf (up s.cpu.x)) ∧
    CompletesInCpu .iny s { s.cpu with y := up s.cpu.y } [.z, .n] 2 (ZNOf (up s.cpu.y)) ∧
    CompletesInCpu .dex s { s.cpu with x := down s.cpu.x } [.z, .n] 2 (ZNOf (down s.cpu.x)) ∧
    CompletesInCpu .dey s { s.cpu with y := down s.cpu.y } [.z, .n] 2 (ZNOf (down s.cpu.y))) ∧
  HasEncodings .inx [(0xE8, .imp, 2)] ∧ HasEncodings .iny [(0xC8, .imp, 2)] ∧ HasEncodings .dex [(0xCA, .imp, 2)] ∧
  HasEncodings .dey [(0x88, .imp, 2)]

/-- ASL, LSR, ROL and ROR in all their forms: the bit that leaves is the new carry, the old carry enters the rotates
at the other end (`43_shift_rotate.md` R321 to R324). -/
def Obligations.ShiftsAndRotatesGoThroughTheCarry : Prop :=
  ShiftsBy .asl .asl (fun _ m => 2 * m.toNat) (fun m => decide (128 ≤ m.toNat)) ∧
  ShiftsBy .lsr .lsr (fun _ m => m.toNat / 2) (fun m => decide (m.toNat % 2 = 1)) ∧
  ShiftsBy .rol .rol (fun c m => 2 * m.toNat + c.toNat) (fun m => decide (128 ≤ m.toNat)) ∧
  ShiftsBy .ror .ror (fun c m => 128 * c.toNat + m.toNat / 2) (fun m => decide (m.toNat % 2 = 1)) ∧
  HasEncodings .asl [(0x0A, .imp, 2), (0x06, .zp0, 5), (0x16, .zpx, 6), (0x0E, .abs, 6), (0x1E, .abx, 7)] ∧
  HasEncodings .lsr [(0x4A, .imp, 2), (0x46, .zp0, 5), (0x56, .zpx, 6), (0x4E, .abs, 6), (0x5E, .abx, 7)] ∧
  HasEncodings .rol [(0x2A, .imp, 2), (0x26, .zp0, 5), (0x36, .zpx, 6), (0x2E, .abs, 6), (0x3E, .abx, 7)] ∧
  HasEncodings .ror [(0x6A, .imp, 2), (0x66, .zp0, 5), (0x76, .zpx, 6), (0x6E, .abs, 6), (0x7E, .abx, 7)]

-- Control transfer

/-- JMP: to the operand, or in the indirect form to the word at it, whose high byte comes from the start of the same
page when the pointer's low byte is 0xFF (`44_control_transfer.md` R341, `40_addressing_modes.md` R244; the order of
the two reads is decision D10). -/
def Obligations.JmpLoadsThePc : Prop :=
  (∀ (w : Word) (s : State), CompletesInCpu (.jmp (.abs w)) s { s.cpu with pc := w } [] 3 (fun _ => True)) ∧
  (∀ (w : Word) (s : State),
    let next : Word := BitVec.ofNat 16 (if w.toNat % 256 = 255 then w.toNat - 255 else w.toNat + 1)
    let low := memRead w s
    let high := memRead next low.2
    ∃ t : State, exec (.jmp (.ind w)) s = .next t ∧ t.cpu.pc.toNat = 256 * high.1.toNat + low.1.toNat ∧
      RegistersAre t { s.cpu with pc := t.cpu.pc } ∧ FlagsKept [] s t ∧ OutsideCpuAs high.2 t ∧ AfterReads s t ∧
      MemoryKept s t ∧ Costs 5 t) ∧
  HasEncodings .jmp [(0x4C, .abs, 3), (0x6C, .ind, 5)]

/-- JSR pushes the address of its last byte, high byte first, RTS goes to the word on the stack plus one
(`44_control_transfer.md` R342, R343). -/
def Obligations.JsrAndRtsUseTheStack : Prop :=
  (∀ (w : Word) (s : State),
    CompletesPushing (.jsr (.abs w)) s
      [(stackLoc s.cpu.sp, hi8 (s.cpu.pc - 1)), (stackLoc (s.cpu.sp - 1), lo8 (s.cpu.pc - 1))]
      { s.cpu with sp := s.cpu.sp - 2, pc := w } [] 6 (fun _ => True)) ∧
  (∀ s : State,
    CompletesInCpu .rts s
      { s.cpu with sp := s.cpu.sp + 2,
                   pc := BitVec.ofNat 16 (256 * (s.byteAt (stackLoc (s.cpu.sp + 2))).toNat +
                     (s.byteAt (stackLoc (s.cpu.sp + 1))).toNat + 1) } [] 6 (fun _ => True)) ∧
  HasEncodings .jsr [(0x20, .abs, 6)] ∧ HasEncodings .rts [(0x60, .imp, 6)]

/-- The eight branches: which flag each tests and for which value (`44_control_transfer.md` R345 to R352), the target
and the cost (R344; that the page compared is that of the byte after the branch is the spec's from general
knowledge). -/
def Obligations.BranchesTestTheirFlag : Prop :=
  BranchesWhen .bcc .c false ∧ BranchesWhen .bcs .c true ∧ BranchesWhen .beq .z true ∧ BranchesWhen .bne .z false ∧
  BranchesWhen .bmi .n true ∧ BranchesWhen .bpl .n false ∧ BranchesWhen .bvc .v false ∧ BranchesWhen .bvs .v true ∧
  HasEncodings .bcc [(0x90, .rel, 2)] ∧ HasEncodings .bcs [(0xB0, .rel, 2)] ∧ HasEncodings .beq [(0xF0, .rel, 2)] ∧
  HasEncodings .bne [(0xD0, .rel, 2)] ∧ HasEncodings .bmi [(0x30, .rel, 2)] ∧ HasEncodings .bpl [(0x10, .rel, 2)] ∧
  HasEncodings .bvc [(0x50, .rel, 2)] ∧ HasEncodings .bvs [(0x70, .rel, 2)]

-- Stack, flags, system

/-- PHA stores A at the place SP designates and steps SP down; PLA steps SP up and loads A from there, with Z and N
(`45_stack_flags_system.md` R371, R373). -/
def Obligations.PhaAndPlaMoveAThroughTheStack : Prop :=
  (∀ s : State, let m := s.byteAt (stackLoc (s.cpu.sp + 1))
    CompletesPushing .pha s [(stackLoc s.cpu.sp, s.cpu.a)] { s.cpu with sp := s.cpu.sp - 1 } [] 3 (fun _ => True) ∧
    CompletesInCpu .pla s { s.cpu with sp := s.cpu.sp + 1, a := m } [.z, .n] 4 (ZNOf m)) ∧
  HasEncodings .pha [(0x48, .imp, 3)] ∧ HasEncodings .pla [(0x68, .imp, 4)]

/-- PHP pushes the status with bits 4 and 5 set and leaves the live one alone; PLP loads all eight bits and forces bit
5 (`45_stack_flags_system.md` R375, R377; bits 4 and 5 are decision D8). -/
def Obligations.PhpAndPlpMoveStatusThroughTheStack : Prop :=
  (∀ s : State, let m := s.byteAt (stackLoc (s.cpu.sp + 1))
    CompletesPushing .php s [(stackLoc s.cpu.sp, s.cpu.p ||| 0x30)] { s.cpu with sp := s.cpu.sp - 1 } [] 3
      (fun _ => True) ∧
    CompletesInCpu .plp s { s.cpu with sp := s.cpu.sp + 1 } [.c, .z, .i, .d, .b, .u, .v, .n] 4
      (fun t => t.cpu.p = m ||| 0x20)) ∧
  HasEncodings .php [(0x08, .imp, 3)] ∧ HasEncodings .plp [(0x28, .imp, 4)]

/-- The seven flag instructions write one flag each (`45_stack_flags_system.md` R379 to R385). -/
def Obligations.FlagInstructionsWriteOneFlag : Prop :=
  (∀ s : State,
    CompletesInCpu .clc s s.cpu [.c] 2 (fun t => t.flag .c = false) ∧
    CompletesInCpu .sec s s.cpu [.c] 2 (fun t => t.flag .c = true) ∧
    CompletesInCpu .cli s s.cpu [.i] 2 (fun t => t.flag .i = false) ∧
    CompletesInCpu .sei s s.cpu [.i] 2 (fun t => t.flag .i = true) ∧
    CompletesInCpu .cld s s.cpu [.d] 2 (fun t => t.flag .d = false) ∧
    CompletesInCpu .sed s s.cpu [.d] 2 (fun t => t.flag .d = true) ∧
    CompletesInCpu .clv s s.cpu [.v] 2 (fun t => t.flag .v = false)) ∧
  HasEncodings .clc [(0x18, .imp, 2)] ∧ HasEncodings .sec [(0x38, .imp, 2)] ∧ HasEncodings .cli [(0x58, .imp, 2)] ∧
  HasEncodings .sei [(0x78, .imp, 2)] ∧ HasEncodings .cld [(0xD8, .imp, 2)] ∧ HasEncodings .sed [(0xF8, .imp, 2)] ∧
  HasEncodings .clv [(0xB8, .imp, 2)]

/-- BRK: PC + 1 and the status with bits 4 and 5 set are pushed, I is set, PC comes from the IRQ vector, and the live
B is left alone (`45_stack_flags_system.md` R386, decision D9; the vector's address is decision D2). -/
def Obligations.BrkEntersThroughTheIrqVector : Prop :=
  (∀ s : State, ∃ t : State, exec .brk s = .next t ∧
    EntersInterrupt (s.cpu.pc + 1) (s.cpu.p ||| 0x30) 0xFFFE s t ∧ FlagsKept [.i] s t ∧ Costs 7 t) ∧
  HasEncodings .brk [(0x00, .imp, 7)]

/-- RTI: P with bit 5 forced, then PC, from the three bytes above SP; no byte outside the CPU changes
(`45_stack_flags_system.md` R387). -/
def Obligations.RtiPullsStatusAndPc : Prop :=
  (∀ s : State,
    CompletesInCpu .rti s
      { s.cpu with sp := s.cpu.sp + 3,
                   pc := BitVec.ofNat 16 (256 * (s.byteAt (stackLoc (s.cpu.sp + 3))).toNat +
                     (s.byteAt (stackLoc (s.cpu.sp + 2))).toNat) }
      [.c, .z, .i, .d, .b, .u, .v, .n] 6 (fun t => t.cpu.p = s.byteAt (stackLoc (s.cpu.sp + 1)) ||| 0x20)) ∧
  HasEncodings .rti [(0x40, .imp, 6)]

/-- NOP and the undocumented opcodes change nothing but the counter. Exactly the 105 listed bytes are undocumented; under
the default parameters each has no operand byte and the cycles listed for it. Under any parameters its mode and cycles
are those given it, its operand is decoded and its mode computed, with the reads of a pointer if the mode has one, and
nothing else happens (`45_stack_flags_system.md` R390, R392, `30_encoding.md` R207, R208, `00_scope.md` R12; the mode
and the cycles are decision D4). -/
def Obligations.NopAndUndocumentedOpcodesOnlyTakeTime : Prop :=
  (∀ s : State, CompletesInCpu .nop s s.cpu [] 2 (fun _ => True)) ∧ HasEncodings .nop [(0xEA, .imp, 2)] ∧
  (∀ e ∈ undefCycleList, ∀ b ∈ e.2, ∀ (b1 b2 : Byte) (s : State),
    (s.params.undefMode.lookup b = none → decodeBytes s.params b b1 b2 = .xxx b .imp) ∧
    (∀ m : Mode, s.params.undefMode.lookup b = some m →
      decodeBytes s.params b b1 b2 = .xxx b (Operand.ofBytes m b1 b2)) ∧
    (s.params.undefCycles.lookup b = none → CompletesInCpu (.xxx b .imp) s s.cpu [] e.1 (fun _ => True)) ∧
    (∀ o : Operand, ∃ t : State, exec (.xxx b o) s = .next t ∧ RegistersAre t s.cpu ∧ FlagsKept [] s t ∧
      OutsideCpuAs (applyMode o s).state t ∧ AfterReads s t ∧ MemoryKept s t ∧
      Costs ((s.params.undefCycles.lookup b).getD e.1) t)) ∧
  (∀ b : Byte, (tableEntry b).op = .xxx ↔ b ∈ undefCycleList.flatMap Prod.snd) ∧
  (undefCycleList.flatMap Prod.snd).length = 105 ∧ standardParams.undefMode = [] ∧ standardParams.undefCycles = []

/-- The cost of every instruction but a branch is its base, plus one exactly where its opcode is one of the 23 that
R257 lists and the index crossed a page, under any parameters (`40_addressing_modes.md` R255, R257; that list is
decision D12). -/
def Obligations.OnlyTheNamedOpcodesCostOneMore : Prop :=
  ∀ (b b1 b2 : Byte) (s : State), (tableEntry b).mode ≠ .rel →
    let e := s.params.entry b
    ∃ t : State, exec (decodeBytes s.params b b1 b2) s = .next t ∧
      Costs (e.base + if b ∈ extraCycleOpcodes ∧ (applyMode (Operand.ofBytes e.mode b1 b2) s).crossed = true then 1
        else 0) t

-- Interrupts and reset

/-- `irq()` does nothing while I is 1; else, and `nmi()` whatever I is: an entry through 0xFFFE or 0xFFFA with B clear
and U set in the pushed and in the live status, the old I in the pushed one, `addr_abs` at the vector, 7 or 8 cycles
(`60_exceptions.md` R524, R525; decisions D2, D6, D7). -/
def Obligations.InterruptEntriesSaveStatusAndPc : Prop :=
  ∀ s : State,
    let entered := fun (vector : Word) (cost : Nat) (t : State) =>
      EntersInterrupt s.cpu.pc ((s.cpu.p &&& 0xEF) ||| 0x20) vector s t ∧ FlagsKept [.i, .b, .u] s t ∧
        t.flag .b = false ∧ t.flag .u = true ∧ t.cpu.addrAbs = vector ∧ Costs cost t
    (s.flag .i = true → irq s = s) ∧ (s.flag .i = false → entered 0xFFFE 7 (irq s)) ∧ entered 0xFFFA 8 (nmi s)

/-- Subroutines and handlers come back to where they were entered from, wherever SP stands: RTS after JSR restores PC,
SP, A, X, Y and the flags; RTI after an NMI, an accepted IRQ or a BRK does, but that U is 1 and B is 0 after the first
two and 1 after the last, and PC after BRK is one past the byte after the opcode (`44_control_transfer.md` R342,
R343, `60_exceptions.md` R532). -/
def Obligations.ReturnsUndoTheirEntries : Prop :=
  ∀ s : State, s.inv = true →
    (∀ w : Word, ∃ t u : State, exec (.jsr (.abs w)) s = .next t ∧ t.cpu.pc = w ∧ exec .rts t = .next u ∧
      RegistersAre u s.cpu ∧ FlagsKept [] s u) ∧
    (∃ u : State, exec .rti (nmi s) = .next u ∧ RegistersAre u s.cpu ∧ FlagsKept [.b, .u] s u ∧ u.flag .b = false ∧
      u.flag .u = true) ∧
    (s.flag .i = false → ∃ u : State, exec .rti (irq s) = .next u ∧ RegistersAre u s.cpu ∧ FlagsKept [.b, .u] s u ∧
      u.flag .b = false ∧ u.flag .u = true) ∧
    (∃ t u : State, exec .brk s = .next t ∧ exec .rti t = .next u ∧
      RegistersAre u { s.cpu with pc := s.cpu.pc + 1 } ∧ FlagsKept [.b, .u] s u ∧ u.flag .b = true ∧ u.flag .u = true)

/-- What ends a tick: NMI before IRQ, each request cleared by its delivery, an IRQ that finds I set lost
(`51_bus_clock_dma.md` R492, `60_exceptions.md` R529; decision D27). -/
def Obligations.TickDeliversNmiBeforeIrq : Prop :=
  ∀ s : State,
    let taken := s.setPpu { s.ppu with nmiPending := false }
    let cleared := s.setMapper s.cart.mapper.irqClear
    (s.ppu.nmiPending = false → s.cart.mapper.irqState = false → endTick s = s.setClock (s.clock + 1)) ∧
    (s.ppu.nmiPending = true → s.cart.mapper.irqState = false → endTick s = (nmi taken).setClock (s.clock + 1)) ∧
    (s.ppu.nmiPending = false → s.cart.mapper.irqState = true →
      endTick s = (irq cleared).setClock (s.clock + 1)) ∧
    (s.ppu.nmiPending = true → s.cart.mapper.irqState = true →
      endTick s = ((nmi taken).setMapper s.cart.mapper.irqClear).setClock (s.clock + 1))

/-- The full reset, field by field: the registers the source names, the transients, bus and PPU at the spec's own
values (decisions D11, D29, D41), the mapper's registers at theirs variant by variant (D65), PC from 0xFFFC (D2) under
that banking, and everything the rules preserve preserved (`70_reset_and_hazards.md` R560, R561, `50_ppu.md` R470,
`21_cartridge_mappers.md` R150, R160, R170, R174, R180, R188). No rule names the sink: that a reset keeps it is the
model's choice (log entry 7, DESIGN CHOICE). -/
def Obligations.FullResetSetsEveryRegister : Prop :=
  ∀ s : State,
    let t := fullReset s
    t.cpu.a = 0 ∧ t.cpu.x = 0 ∧ t.cpu.y = 0 ∧ t.cpu.sp = 0xFD ∧ t.cpu.p = 0x20 ∧ t.cpu.cycles = 8 ∧
    t.cpu.opcode = 0 ∧ t.cpu.addrAbs = 0 ∧ t.cpu.addrRel = 0 ∧ t.cpu.fetched = 0 ∧
    t.cpu.pc = (memRead16 0xFFFC { s with cart := t.cart }).1 ∧
    t.clock = 0 ∧ t.dma = { page := 0, addr := 0, data := 0, idle := true, transfer := false } ∧
    t.ppu.ctrl = 0 ∧ t.ppu.mask = 0 ∧ t.ppu.verticalBlank = false ∧ t.ppu.spriteZeroHit = false ∧
    t.ppu.spriteOverflow = false ∧ t.ppu.oamAddr = 0 ∧ t.ppu.addressLatch = false ∧ t.ppu.dataBuffer = 0 ∧
    t.ppu.v = 0 ∧ t.ppu.t = 0 ∧ t.ppu.fineX = 0 ∧ t.ppu.scanline = 0 ∧ t.ppu.cycle = 0 ∧ t.ppu.oddFrame = false ∧
    t.ppu.frameComplete = false ∧ t.ppu.nmiPending = false ∧ t.ppu.bgNextId = 0 ∧ t.ppu.bgNextAttr = 0 ∧
    t.ppu.bgNextLsb = 0 ∧ t.ppu.bgNextMsb = 0 ∧ t.ppu.bgPatLo = 0 ∧ t.ppu.bgPatHi = 0 ∧ t.ppu.bgAttLo = 0 ∧
    t.ppu.bgAttHi = 0 ∧ t.ppu.sprCount = 0 ∧ t.ppu.spr0Possible = false ∧ t.ppu.spr0Rendering = false ∧
    t.ppu.slots = List.replicate 8 { y := 0xFF, id := 0xFF, attr := 0xFF, x := 0xFF, lo := 0, hi := 0 } ∧
    t.cart = { s.cart with mapper := t.cart.mapper } ∧ t.params = s.params ∧
    t.controller0 = s.controller0 ∧ t.controller1 = s.controller1 ∧ t.latch0 = s.latch0 ∧ t.latch1 = s.latch1 ∧
    t.renderEnable = s.renderEnable ∧ t.sink = s.sink ∧ MemoryKept s t ∧
    (s.cart.mapper = .fixed → t.cart.mapper = .fixed) ∧
    (∀ m : SerialMapper, s.cart.mapper = .serial m → t.cart.mapper = .serial
      { load := 0, loadCount := 0, control := 0x0C, chrLo := 0, chrHi := 0, prg := 0, mirror := .hardware,
        cram := m.cram }) ∧
    (∀ k : BitVec 4, s.cart.mapper = .lowBank k → t.cart.mapper = .lowBank 0) ∧
    (∀ k : BitVec 2, s.cart.mapper = .chrBank k → t.cart.mapper = .chrBank 0) ∧
    (∀ m : TargetMapper, s.cart.mapper = .target m → t.cart.mapper = .target
      { r0 := 0, r1 := 0, r2 := 0, r3 := 0, r4 := 0, r5 := 0, r6 := 0, r7 := 1, target := 0, prgMode := false,
        chrInv := false, mirror := .hardware, irqActive := false, irqEnable := false, irqCounter := 0,
        irqReload := 0, cram := m.cram }) ∧
    (∀ k l : BitVec 2, s.cart.mapper = .combined k l → t.cart.mapper = .combined 0 0)

/-- After a full reset the CPU idles for eight slots: 24 steps later the clock stands at tick 24, `cycles` is 0 and
PC still at the reset vector's target, no interrupt having been taken, whatever the cartridge
(`70_reset_and_hazards.md` R563, `51_bus_clock_dma.md` R484). The run is without calls of the host (log entry 10). -/
def Obligations.FirstFetchAfterResetIsAtTick24 : Prop :=
  ∀ s : State, ∃ t : State, Sys2Proof.core.run 24 (fullReset s) = .next t ∧ t.clock = 24 ∧
    t.cpu = { (fullReset s).cpu with cycles := 0 } ∧ t.dma.transfer = false ∧ t.ram = s.ram

-- The CPU bus

/-- Work RAM is seen four times in 0x0000 to 0x1FFF: reads return the byte of the address modulo 2048 and change
nothing, a write is seen at every image and nowhere else in RAM (`20_memory.md` R85). The PPU's eight ports are seen
1024 times in 0x2000 to 0x3FFF: an access is one of port `a` modulo 8 (R86). -/
def Obligations.RamAndPortsAreImaged : Prop :=
  (∀ (a b : Word) (v : Byte) (s : State), s.ram.wf = true → a.toNat < 0x2000 → b.toNat < 0x2000 →
    memRead a s = (s.ram.read (a.toNat % 0x800), s) ∧
    (memRead b (memWrite a v s)).1 = (if a.toNat % 0x800 = b.toNat % 0x800 then v else (memRead b s).1) ∧
    memWrite a v s = { s with ram := (memWrite a v s).ram }) ∧
  (∀ (a : Word) (v : Byte) (s : State), 0x2000 ≤ a.toNat → a.toNat < 0x4000 →
    memRead a s = ppuPortRead (BitVec.ofNat 3 (a.toNat % 8)) s ∧
    memWrite a v s = ppuPortWrite (BitVec.ofNat 3 (a.toNat % 8)) v s)

/-- What nothing decodes reads as zero and discards writes: 0x4000 to 0x4013, 0x4015, 0x4018 to 0x5FFF, reads of
0x4014, and 0x6000 to 0x7FFF where the variant has no RAM there (`20_memory.md` R88, R90, R94; decisions D23, D24). -/
def Obligations.UnmappedAddressesReadZero : Prop :=
  ∀ (a : Word) (v : Byte) (s : State), 0x4000 ≤ a.toNat →
    a.toNat < 0x6000 ∨ (a.toNat < 0x8000 ∧ s.cart.mapper.hasCram = false) → a ≠ 0x4016 → a ≠ 0x4017 →
    memRead a s = (0x00, s) ∧ (a ≠ 0x4014 → memWrite a v s = s)

/-- Reads have no side effects but four: the status port's, the data port's and the two controllers' (`20_memory.md`
R99). Elsewhere, and through the data port, only the model's count of free values may move, by one and exactly when
the cartridge maps the address beyond its program or character image (log entry 3, DESIGN CHOICE). -/
def Obligations.OnlyFourKindsOfReadHaveSideEffects : Prop :=
  ∀ (a : Word) (s : State), let t := (memRead a s).2
    let port := 0x2000 ≤ a.toNat ∧ a.toNat < 0x4000
    (port → a.toNat % 8 = 2 → t = { s with ppu := { s.ppu with verticalBlank := false, addressLatch := false } }) ∧
    (port → a.toNat % 8 = 7 →
      t = { s with ppu := { s.ppu with dataBuffer := t.ppu.dataBuffer, v := t.ppu.v }, freeIndex := t.freeIndex } ∧
      t.freeIndex = s.freeIndex + match ppuMapRead s.cart (s.ppu.v.toNat % 0x4000) with
        | some o => if o < s.cart.chrSize then 0 else 1
        | none => 0) ∧
    (a = 0x4016 → t = { s with latch0 := s.latch0 <<< 1 }) ∧
    (a = 0x4017 → t = { s with latch1 := s.latch1 <<< 1 }) ∧
    (¬(port ∧ (a.toNat % 8 = 2 ∨ a.toNat % 8 = 7)) → a ≠ 0x4016 → a ≠ 0x4017 →
      t = { s with freeIndex := t.freeIndex } ∧ (a.toNat < 0x8000 → t = s) ∧
      ∀ o : Nat, cpuMapRead s.cart a = .offset o →
        t.freeIndex = s.freeIndex + if o < s.cart.prgSize then 0 else 1)

/-- A bus write changes at most the one byte of memory it lands in, which then holds the byte written, at every
address, and never the CPU, the clock, the parameters, the host's inputs, the sink or the count of free values
(`20_memory.md` R82, R84, `21_cartridge_mappers.md` R146, R147). -/
def Obligations.BusWritesChangeOneByteOfMemory : Prop :=
  ∀ (a : Word) (v : Byte) (s : State), s.inv = true → let t := memWrite a v s
    StoredAt a v s s t ∧
    t = { s with ram := t.ram, latch0 := t.latch0, latch1 := t.latch1, dma := t.dma, ppu := t.ppu, cart := t.cart } ∧
    (a.toNat < 0x2000 ∨ 0x4000 ≤ a.toNat → t.ppu = s.ppu) ∧
    (a.toNat < 0x2000 → t.cart = s.cart ∧ t.dma = s.dma ∧ t.latch0 = s.latch0 ∧ t.latch1 = s.latch1) ∧
    (a ≠ 0x4014 → t.dma = s.dma) ∧
    t.cart.prg = s.cart.prg

/-- A controller port: a write of any value latches the live buttons, eight reads return them from bit 7 down, and
the reads after that return zero (`20_memory.md` R92, R93; decisions D24, D25). -/
def Obligations.ControllersShiftOutTheirButtons : Prop :=
  ∀ (v : Byte) (n : Nat) (s : State),
    let read := fun (a : Word) (t : State) => (memRead a t).2
    let value := fun (buttons : Byte) => (if n < 8 ∧ buttons.getLsbD (7 - n) = true then 0x01#8 else 0x00#8)
    (memRead 0x4016 (Nat.iterate (read 0x4016) n (memWrite 0x4016 v s))).1 = value s.controller0 ∧
    (memRead 0x4017 (Nat.iterate (read 0x4017) n (memWrite 0x4017 v s))).1 = value s.controller1

/-- A whole transfer, armed by a store to 0x4014: while the DMA acts in successive slots, 513 of them when the first
is odd and 514 when it is even, the transfer is in progress; after them it is idle again and every byte of OAM is
the byte the source page reads as, where reading that page has no side effect; nothing else but the clock has changed
(`20_memory.md` R89, `51_bus_clock_dma.md` R486 to R490; decisions D21, D22, D26). Said of the DMA's actions at the
default `DMA_SLOT_PERIOD` 3, nothing else acting between them; it leaves out the pages 0x20 to 0x3F, whose reads are the
PPU's ports, and `DMA_SLOT_PERIOD` 1. -/
def Obligations.DmaCopiesAPageToOam : Prop :=
  ∀ (page : Byte) (f : Byte → Byte) (s : State), s.inv = true → s.dma.transfer = false →
    page.toNat < 0x20 ∨ 0x40 ≤ page.toNat → (∀ k : Byte, memRead (page ++ k) s = (f k, s)) →
    let armed := (memWrite 0x4014 page s).setClock (s.clock + 3)
    let n := if s.clock % 2 = 0 then 513 else 514
    let t := dmaSlots n armed
    (∀ k : Nat, k < n → (dmaSlots k armed).dma.transfer = true) ∧
    t.dma = { page := page, addr := 0, data := f 0xFF, idle := true, transfer := false } ∧
    (∀ k : Byte, t.byteAt (.oam k.toNat) = f k) ∧
    (∀ l : Loc, (∀ k : Nat, l ≠ .oam k) → t.byteAt l = s.byteAt l) ∧
    t = { s with dma := t.dma, ppu := { s.ppu with oam := t.ppu.oam }, clock := s.clock + 3 * (n + 1) }

-- The PPU's ports

/-- Ports 0 to 4: control with the nametable bits of `t`, mask, OAM address, and the OAM byte, which a write stores and
steps over and a read only returns (`50_ppu.md` R410, R411, R413, R414; that setting `enable_nmi` raises no request is
decision D45, the step is decision D48). Port 2: the three status bits in bits 7 to 5 and zeros below, the
vertical-blank flag and the write toggle cleared by the read, the NMI request kept, writes ignored; the five write-only
ports read as zero (R412, R418; decisions D45, D49). -/
def Obligations.ControlStatusAndOamPorts : Prop :=
  ∀ (d : Byte) (s : State),
    let t := ppuPortWrite 0 d s
    let u := ppuPortWrite 4 d s
    t = { s with ppu := { s.ppu with ctrl := d, t := t.ppu.t } } ∧
    ntX t.ppu.t = d.extractLsb' 0 1 ∧ ntY t.ppu.t = d.extractLsb' 1 1 ∧ coarseX t.ppu.t = coarseX s.ppu.t ∧
    coarseY t.ppu.t = coarseY s.ppu.t ∧ fineY t.ppu.t = fineY s.ppu.t ∧
    ppuPortWrite 1 d s = { s with ppu := { s.ppu with mask := d } } ∧
    ppuPortWrite 3 d s = { s with ppu := { s.ppu with oamAddr := d } } ∧
    u = { s with ppu := { s.ppu with oam := u.ppu.oam, oamAddr := BitVec.ofNat 8 (s.ppu.oamAddr.toNat + 1) } } ∧
    (s.inv = true → StoresAre [(.oam s.ppu.oamAddr.toNat, d)] s u) ∧
    ppuPortRead 4 s = (s.byteAt (.oam s.ppu.oamAddr.toNat), s) ∧
    (ppuPortRead 2 s).1.toNat = 128 * s.ppu.verticalBlank.toNat + 64 * s.ppu.spriteZeroHit.toNat +
      32 * s.ppu.spriteOverflow.toNat ∧
    (ppuPortRead 2 s).2 = { s with ppu := { s.ppu with verticalBlank := false, addressLatch := false } } ∧
    ppuPortWrite 2 d s = s ∧ (∀ p ∈ [(0 : BitVec 3), 1, 3, 5, 6], ppuPortRead p s = (0x00, s))

/-- Ports 5 and 6, the two writes of each, as numbers: which fields of `t` a scroll write takes from the byte, and that
the others and `v` are kept (`50_ppu.md` R415); the first address write puts six bits above the low byte of `t` and
clears bit 14, the second replaces the low byte and copies `t` to `v` (R416). -/
def Obligations.ScrollAndAddressPortsTakeTwoWrites : Prop :=
  ∀ (d : Byte) (s : State),
    let t := ppuPortWrite 5 d s
    let u := ppuPortWrite 6 d s
    (s.ppu.addressLatch = false →
      t = { s with ppu := { s.ppu with fineX := t.ppu.fineX, t := t.ppu.t, addressLatch := true } } ∧
      t.ppu.fineX.toNat = d.toNat % 8 ∧ (coarseX t.ppu.t).toNat = d.toNat / 8 ∧
      coarseY t.ppu.t = coarseY s.ppu.t ∧ ntX t.ppu.t = ntX s.ppu.t ∧ ntY t.ppu.t = ntY s.ppu.t ∧
      fineY t.ppu.t = fineY s.ppu.t ∧
      u = { s with ppu := { s.ppu with t := u.ppu.t, addressLatch := true } } ∧
      u.ppu.t.toNat = d.toNat % 64 * 256 + s.ppu.t.toNat % 256) ∧
    (s.ppu.addressLatch = true →
      t = { s with ppu := { s.ppu with t := t.ppu.t, addressLatch := false } } ∧
      (fineY t.ppu.t).toNat = d.toNat % 8 ∧ (coarseY t.ppu.t).toNat = d.toNat / 8 ∧
      coarseX t.ppu.t = coarseX s.ppu.t ∧ ntX t.ppu.t = ntX s.ppu.t ∧ ntY t.ppu.t = ntY s.ppu.t ∧
      u = { s with ppu := { s.ppu with t := u.ppu.t, v := u.ppu.t, addressLatch := false } } ∧
      u.ppu.t.toNat = s.ppu.t.toNat / 256 * 256 + d.toNat)

/-- Port 7: reads are one behind below the palette and immediate in it, refill the buffer and advance `v` by 1 or 32
modulo 32768; a write lands in the byte at `v` and advances it too (`50_ppu.md` R417; decision D53). And the address
space behind it, in numbers (`20_memory.md` R110 to R115; decision D52): where a PPU write at `n` lands and which byte a
PPU read there returns, the character side of a cartridge with character ROM aside, which the statements about the
mappers give. The count of free values that a read may move is the model's own (log entry 3, DESIGN CHOICE). -/
def Obligations.DataPortReachesThePpuSpace : Prop :=
  (∀ (d : Byte) (s : State),
    let byte := ppuRead (s.ppu.v.setWidth 16) s
    let after : BitVec 15 := BitVec.ofNat 15 (s.ppu.v.toNat + if s.ppu.ctrl.getLsbD 2 = true then 32 else 1)
    let t := (ppuPortRead 7 s).2
    let u := ppuPortWrite 7 d s
    (ppuPortRead 7 s).1 = (if s.ppu.v.toNat % 0x4000 < 0x3F00 then s.ppu.dataBuffer else byte.1) ∧
    t = { s with ppu := { s.ppu with dataBuffer := byte.1, v := after }, freeIndex := t.freeIndex } ∧
    u.ppu.v = after ∧ (s.inv = true → StoresAre [(s.ppuPlace (s.ppu.v.toNat % 0x4000), d)] s u) ∧
    u.ppu.dataBuffer = s.ppu.dataBuffer ∧ u.cpu = s.cpu ∧ u.ram = s.ram) ∧
  (∀ (a : Word) (s : State), let n := a.toNat % 0x4000
    (n < 0x2000 → s.cart.chrBanks = 0 → ppuRead a s = (s.byteAt (.chr n), s)) ∧
    (0x2000 ≤ n → n < 0x3F00 → ppuRead a s = (s.byteAt (s.ppuPlace n), s)) ∧
    (0x3F00 ≤ n → (ppuRead a s).2 = s ∧ (ppuRead a s).1.toNat =
      if s.ppu.mask.getLsbD 0 = true then (s.byteAt (s.ppuPlace n)).toNat / 16 % 4 * 16
      else (s.byteAt (s.ppuPlace n)).toNat % 64))

-- The PPU's clock

/-- The horizontal and the vertical increment of the scroll and their gate (`50_ppu.md` R430, R431); and with rendering
disabled no call of the clock touches a scroll register or skips a cycle (R408). -/
def Obligations.ScrollMovesOnlyWhileRendering : Prop :=
  (∀ p : Ppu,
    let x := (incrementScrollX p).v
    let y := (incrementScrollY p).v
    (p.rendering = false → incrementScrollX p = p ∧ incrementScrollY p = p) ∧
    (p.rendering = true →
      incrementScrollX p = { p with v := x } ∧ incrementScrollY p = { p with v := y } ∧
      (coarseX x).toNat = ((coarseX p.v).toNat + 1) % 32 ∧
      (ntX x = ntX p.v ↔ coarseX p.v ≠ 31) ∧ ntY x = ntY p.v ∧ coarseY x = coarseY p.v ∧ fineY x = fineY p.v ∧
      (fineY y).toNat = ((fineY p.v).toNat + 1) % 8 ∧
      (coarseY y).toNat = (if fineY p.v ≠ 7 then (coarseY p.v).toNat
        else if coarseY p.v = 29 then 0 else ((coarseY p.v).toNat + 1) % 32) ∧
      (ntY y = ntY p.v ↔ ¬(fineY p.v = 7 ∧ coarseY p.v = 29)) ∧ ntX y = ntX p.v ∧ coarseX y = coarseX p.v)) ∧
  (∀ s : State, s.ppu.mask.getLsbD 3 = false → s.ppu.mask.getLsbD 4 = false →
    let p := (ppuClock s).ppu
    p.v = s.ppu.v ∧ p.t = s.ppu.t ∧ p.fineX = s.ppu.fineX ∧
      (s.ppu.cycle < 340 → p.cycle = s.ppu.cycle + 1 ∧ p.scanline = s.ppu.scanline))

/-- The background pipeline of one call of the clock, on scanlines -1 to 239 (`50_ppu.md` R424 to R434; the phases are
decision D50, the formulas general knowledge by the spec's mark, that disabled shifters hold decision D46). In cycles 2
to 257 and 321 to 337 the four shifters double while the background is enabled; there, in cycles 1 modulo 8, they take
the latched tile into their low bytes and the next tile id is fetched, as it is in cycles 338 and 340; the attribute
bits, the low and the high pattern byte are fetched in cycles 3, 5 and 7 modulo 8. While rendering is enabled the scroll
moves horizontally in cycles 0 modulo 8 and vertically too in cycle 256, takes the horizontal fields of `t` in cycle 257
and its vertical fields in cycles 280 to 304 of the pre-render scanline. -/
def Obligations.BackgroundPipelineFetchesAndShifts : Prop :=
  ∀ s : State,
    let p := s.ppu
    let q := (ppuClock s).ppu
    let c := if p.skips = true then 1 else p.cycle
    let line := -1 ≤ p.scanline ∧ p.scanline ≤ 239
    let window := line ∧ ((2 ≤ c ∧ c ≤ 257) ∨ (321 ≤ c ∧ c ≤ 337))
    let byte := fun n : Nat => (ppuRead (BitVec.ofNat 16 n) s).1
    let x := (coarseX p.v).toNat
    let y := (coarseY p.v).toNat
    let row := 0x1000 * (p.ctrl.getLsbD 4).toNat + 16 * p.bgNextId.toNat + (fineY p.v).toNat
    let shifted := fun (old new : BitVec 16) (low : Nat) =>
      let r := if window ∧ p.mask.getLsbD 3 = true then 2 * old.toNat % 65536 else old.toNat
      new.toNat = if window ∧ c % 8 = 1 then r / 256 * 256 + low else r
    let moves := line ∧ (p.mask.getLsbD 3 = true ∨ p.mask.getLsbD 4 = true)
    let across := moves ∧ window ∧ c % 8 = 0
    let fromT := moves ∧ p.scanline = -1 ∧ 280 ≤ c ∧ c ≤ 304
    q.bgNextId = (if (window ∧ c % 8 = 1) ∨ (line ∧ (c = 338 ∨ c = 340)) then byte (0x2000 + p.v.toNat % 0x1000)
      else p.bgNextId) ∧
    q.bgNextAttr.toNat = (if window ∧ c % 8 = 3 then
        (byte (0x23C0 + 0x800 * (ntY p.v).toNat + 0x400 * (ntX p.v).toNat + 8 * (y / 4) + x / 4)).toNat /
          (if y / 2 % 2 = 1 then 16 else 1) / (if x / 2 % 2 = 1 then 4 else 1) % 4
      else p.bgNextAttr.toNat) ∧
    q.bgNextLsb = (if window ∧ c % 8 = 5 then byte row else p.bgNextLsb) ∧
    q.bgNextMsb = (if window ∧ c % 8 = 7 then byte (row + 8) else p.bgNextMsb) ∧
    shifted p.bgPatLo q.bgPatLo p.bgNextLsb.toNat ∧ shifted p.bgPatHi q.bgPatHi p.bgNextMsb.toNat ∧
    shifted p.bgAttLo q.bgAttLo (255 * (p.bgNextAttr.toNat % 2)) ∧
    shifted p.bgAttHi q.bgAttHi (255 * (p.bgNextAttr.toNat / 2)) ∧
    (across → c ≠ 256 → q.v = (incrementScrollX p).v) ∧
    (across → c = 256 → q.v = (incrementScrollY (incrementScrollX p)).v) ∧
    (moves → c = 257 → coarseX q.v = coarseX p.t ∧ ntX q.v = ntX p.t ∧ coarseY q.v = coarseY p.v ∧
      ntY q.v = ntY p.v ∧ fineY q.v = fineY p.v) ∧
    (fromT → coarseX q.v = coarseX p.v ∧ ntX q.v = ntX p.v ∧ coarseY q.v = coarseY p.t ∧ ntY q.v = ntY p.t ∧
      fineY q.v = fineY p.t) ∧
    (¬across → ¬(moves ∧ c = 257) → ¬fromT → q.v = p.v)

/-- The sprite pipeline of one call of the clock, on scanlines -1 to 239 (`50_ppu.md` R423, R440, R442 to R445; the
cycles are decisions D46, D47, the row address general knowledge by the spec's mark). In cycles 2 to 257, while sprites
are enabled, each active slot counts its delay down or, at zero, doubles its two shifters; cycle 257 of a visible
scanline evaluates, and sprite overflow is written there and by the clear alone; cycle 340 fetches the two pattern bytes of each active slot, its row and its bits reversed as its
attribute says, wherever PPU reads draw no free value and the row is one of the sprite; cycle 1 of the pre-render
scanline empties the slots; else nothing changes. What the compositor does to `sprite_zero_hit` and
`spr0_rendering` in a clock is in the statement about the compositor. -/
def Obligations.SpritePipelineShiftsAndFetches : Prop :=
  ∀ s : State,
    let p := s.ppu
    let q := (ppuClock s).ppu
    let line := -1 ≤ p.scanline ∧ p.scanline ≤ 239
    let clears := p.scanline = -1 ∧ p.cycle = 1
    let evaluates := 0 ≤ p.scanline ∧ p.scanline ≤ 239 ∧ p.cycle = 257
    let shifts := line ∧ 2 ≤ p.cycle ∧ p.cycle ≤ 257 ∧ ¬evaluates ∧ p.mask.getLsbD 4 = true
    let fetches := line ∧ p.cycle = 340
    (¬clears → ¬evaluates → q.sprCount = p.sprCount ∧ q.spr0Possible = p.spr0Possible ∧
      q.spriteOverflow = p.spriteOverflow) ∧
    (clears → q.sprCount = 0 ∧ q.spr0Possible = false ∧ q.spr0Rendering = false ∧ q.spriteOverflow = false ∧
      q.spriteZeroHit = false ∧ q.slots = p.slots.map fun sl => { sl with lo := 0, hi := 0 }) ∧
    (evaluates → let e := evaluateSprites s.params.spriteEvalOffset p
      q.sprCount = e.sprCount ∧ q.spr0Possible = e.spr0Possible ∧ q.spriteOverflow = e.spriteOverflow ∧
        q.slots = e.slots) ∧
    (¬clears → ¬evaluates → ¬shifts → ¬fetches → q.slots = p.slots) ∧
    (q.slots.length = p.slots.length ∨ evaluates) ∧
    (∀ (k : Nat) (sl : Slot), p.slots[k]? = some sl →
      (shifts ∨ fetches → p.sprCount ≤ k → q.slots[k]? = some sl) ∧
      (shifts → k < p.sprCount → q.slots[k]? = some
        (if 0 < sl.x.toNat then { sl with x := BitVec.ofNat 8 (sl.x.toNat - 1) }
         else { sl with lo := BitVec.ofNat 8 (2 * sl.lo.toNat), hi := BitVec.ofNat 8 (2 * sl.hi.toNat) })) ∧
      (fetches → k < p.sprCount → (∀ a : Word, (ppuRead a s).2 = s) →
        ∀ row : Nat, (row : Int) = p.scanline + s.params.spriteEvalOffset - sl.y.toNat →
          row < (if p.ctrl.getLsbD 5 = true then 16 else 8) →
          let a := spriteRowPlace (p.ctrl.getLsbD 5) (p.ctrl.getLsbD 3) sl.id.toNat (sl.attr.getLsbD 7) row
          ∃ lo hi : Byte, q.slots[k]? = some { sl with lo := lo, hi := hi } ∧
            ∀ j : Nat, j < 8 → let i := if sl.attr.getLsbD 6 = true then 7 - j else j
              lo.getLsbD j = (ppuRead (BitVec.ofNat 16 a) s).1.getLsbD i ∧
              hi.getLsbD j = (ppuRead (BitVec.ofNat 16 (a + 8)) s).1.getLsbD i))

/-- The PPU's clock writes no byte of any memory and touches neither the CPU nor the bus: it changes the PPU's
registers, the mapper's counter, the sink and the count of free values; the PPU registers that only a port writes it
keeps (`50_ppu.md` R471, R407). It calls the mapper's `scanline()` exactly on scanlines 0 to 239 at the cycle
`MAPPER_TICK_CYCLE`, whatever is rendered, the cycle an odd frame skips to counting as 1 (R462; decisions D43, D51). The
sink as a field and the count of free values are the model's own (log entries 7 and 3). -/
def Obligations.PpuClockWritesNoMemory : Prop :=
  ∀ s : State, let t := ppuClock s
    MemoryKept s t ∧
    t = { s with ppu := t.ppu, cart := { s.cart with mapper := t.cart.mapper }, sink := t.sink,
                 freeIndex := t.freeIndex } ∧
    t.cart.mapper = (if (0 ≤ s.ppu.scanline ∧ s.ppu.scanline ≤ 239) ∧
        (if s.ppu.skips = true then 1 else s.ppu.cycle) = s.params.mapperTickCycle then s.cart.mapper.scanline
      else s.cart.mapper) ∧
    t.ppu.ctrl = s.ppu.ctrl ∧ t.ppu.mask = s.ppu.mask ∧ t.ppu.oamAddr = s.ppu.oamAddr ∧
    t.ppu.addressLatch = s.ppu.addressLatch ∧ t.ppu.dataBuffer = s.ppu.dataBuffer ∧ t.ppu.t = s.ppu.t ∧
    t.ppu.fineX = s.ppu.fineX

/-- The position goes round the 89342 places of a frame, one place a call, two where an odd frame skips; passing the
last raises `frame_complete` and toggles the parity, and nothing else changes either (`50_ppu.md` R422, R463; that
the skipping call goes on as cycle 1 is decision D51). -/
def Obligations.PositionGoesRoundTheFrame : Prop :=
  ∀ s : State, s.inv = true →
    let p := s.ppu
    let q := (ppuClock s).ppu
    let n := p.position + if p.skips = true then 2 else 1
    q.position = (if n = 89342 then 0 else n) ∧
    q.frameComplete = (p.frameComplete || decide (n = 89342)) ∧
    q.oddFrame = (if n = 89342 then !p.oddFrame else p.oddFrame)

/-- The end of a frame is reached from every state of the invariant within 89342 ticks, whatever the program does
(`50_ppu.md` R421, R463). The run is without calls of the host (log entry 10). -/
def Obligations.EveryFrameCompletes : Prop :=
  ∀ s : State, s.inv = true → ∃ (k : Nat) (t : State), 1 ≤ k ∧ k ≤ 89342 ∧ Sys2Proof.core.run k s = .next t ∧
    t.ppu.frameComplete = true ∧ t.ppu.scanline = -1 ∧ t.ppu.cycle = 0

/-- Vertical blank: the flag rises at scanline 241, cycle 1, with an NMI request if one is enabled there, falls at
scanline -1, cycle 1, and no other call of the clock changes either (`50_ppu.md` R460, R423, R461; the fall and
that nothing else raises a request are decision D45). -/
def Obligations.VerticalBlankRisesAndFallsOnce : Prop :=
  ∀ s : State, let p := (ppuClock s).ppu
    (s.ppu.scanline = 241 ∧ s.ppu.cycle = 1 →
      p.verticalBlank = true ∧ p.nmiPending = (s.ppu.nmiPending || s.ppu.ctrl.getLsbD 7)) ∧
    (s.ppu.scanline = -1 ∧ s.ppu.cycle = 1 → p.verticalBlank = false ∧ p.nmiPending = s.ppu.nmiPending) ∧
    (¬(s.ppu.scanline = 241 ∧ s.ppu.cycle = 1) → ¬(s.ppu.scanline = -1 ∧ s.ppu.cycle = 1) →
      p.verticalBlank = s.ppu.verticalBlank ∧ p.nmiPending = s.ppu.nmiPending)

/-- Sprite evaluation: the first eight entries in index order whose distance from the evaluated scanline lies in 0 to
the height, the rest of the slots empty, overflow exactly when a ninth qualifies (`50_ppu.md` R440, R441; the offset
and the rewriting of the overflow flag are decisions D42, D45). -/
def Obligations.EvaluationSelectsTheFirstEightSprites : Prop :=
  ∀ (offset : Nat) (p : Ppu),
    let near := fun n : Nat =>
      0 ≤ p.scanline + offset - (p.oam.read (4 * n)).toNat ∧
        p.scanline + offset - (p.oam.read (4 * n)).toNat < if p.ctrl.getLsbD 5 = true then 16 else 8
    let found := (List.range 64).filter (fun n => decide (near n))
    let q := evaluateSprites offset p
    q.sprCount = min found.length 8 ∧ q.spriteOverflow = decide (9 ≤ found.length) ∧ q.slots.length = 8 ∧
    (q.spr0Possible = true ↔ near 0) ∧
    (∀ k : Nat, k < 8 → q.slots[k]? = some (match found[k]? with
      | some n => { y := p.oam.read (4 * n), id := p.oam.read (4 * n + 1), attr := p.oam.read (4 * n + 2),
                    x := p.oam.read (4 * n + 3), lo := 0, hi := 0 }
      | none => { y := 0xFF, id := 0xFF, attr := 0xFF, x := 0xFF, lo := 0, hi := 0 })) ∧
    q = { p with sprCount := q.sprCount, slots := q.slots, spr0Possible := q.spr0Possible,
                 spriteOverflow := q.spriteOverflow }

/-- The compositor. The background pixel is two bits of the shifters at `fine_x` from the left (`50_ppu.md` R450), the
foreground pixel that of the first slot at delay zero that is opaque (R451), both hidden in the left eight pixels unless
enabled there; the four rows of their resolution, as palette addresses (R452); the sprite-zero hit (R453); and in cycles
1 to 256 of the visible scanlines, and only there (decision D54), the emission of the colour at that palette address to
the sink if the host asked for it (R454, R455). That the emitted pixel carries the 6-bit colour index in place of the RGBA
value the table gives for it is the model's choice (log entry 4, DESIGN CHOICE, which U8 allows), and that the sink is a
field that holds the event is log entry 7 (DEDUCED). And a call of the PPU's clock composes (R420): the sink, the hit flag and
`spr0_rendering` after it are what composing gives at the position the call works on, from the shifters and slots as
the call leaves them, the two flags having been cleared in cycle 1 of the pre-render scanline (decision D47). -/
def Obligations.CompositorFollowsThePriorityTable : Prop :=
  (∀ p : Ppu, let b := 15 - p.fineX.toNat
    let shown := p.mask.getLsbD 3 = true ∧ (p.mask.getLsbD 1 = true ∨ 9 ≤ p.cycle)
    (¬shown → p.bgPixel = (0, 0)) ∧
    (shown → p.bgPixel.1.toNat = 2 * (p.bgPatHi.getLsbD b).toNat + (p.bgPatLo.getLsbD b).toNat ∧
      p.bgPixel.2.toNat = 2 * (p.bgAttHi.getLsbD b).toNat + (p.bgAttLo.getLsbD b).toNat)) ∧
  (∀ p : Ppu,
    let shown := p.mask.getLsbD 4 = true ∧ (p.mask.getLsbD 2 = true ∨ 9 ≤ p.cycle)
    let opaqueAt := fun (k : Nat) (sl : Slot) => k < p.sprCount ∧ p.slots[k]? = some sl ∧ sl.x = 0 ∧
      (sl.hi.getLsbD 7 = true ∨ sl.lo.getLsbD 7 = true)
    (¬shown → p.fgPixel = none) ∧
    (shown → (∀ k sl, ¬opaqueAt k sl) → p.fgPixel = none) ∧
    (∀ k sl, shown → opaqueAt k sl → (∀ j sl', j < k → ¬opaqueAt j sl') →
      ∃ f : FgPixel, p.fgPixel = some f ∧
        f.pixel.toNat = 2 * (sl.hi.getLsbD 7).toNat + (sl.lo.getLsbD 7).toNat ∧ f.palette.toNat = sl.attr.toNat % 4 ∧
        f.front = !sl.attr.getLsbD 5 ∧ f.first = decide (k = 0))) ∧
  (∀ (pixel palette : BitVec 2) (f : FgPixel),
    resolvePixel (0, palette) none = 0 ∧
    (resolvePixel (0, palette) (some f)).toNat = 4 * (4 + f.palette.toNat) + f.pixel.toNat ∧
    (pixel ≠ 0 → (resolvePixel (pixel, palette) none).toNat = 4 * palette.toNat + pixel.toNat ∧
      (resolvePixel (pixel, palette) (some f)).toNat =
        if f.front = true then 4 * (4 + f.palette.toNat) + f.pixel.toNat else 4 * palette.toNat + pixel.toNat)) ∧
  (∀ s : State,
    let t := composePixel s
    let visible := (0 ≤ s.ppu.scanline ∧ s.ppu.scanline ≤ 239) ∧ 1 ≤ s.ppu.cycle ∧ s.ppu.cycle ≤ 256
    let spritesShown := s.ppu.mask.getLsbD 4 = true ∧ (s.ppu.mask.getLsbD 2 = true ∨ 9 ≤ s.ppu.cycle)
    (¬visible → t = s) ∧
    (visible →
      t = { s with ppu := { s.ppu with spriteZeroHit := t.ppu.spriteZeroHit, spr0Rendering := t.ppu.spr0Rendering },
                   sink := t.sink } ∧
      (¬spritesShown → t.ppu.spr0Rendering = s.ppu.spr0Rendering) ∧
      (spritesShown → t.ppu.spr0Rendering = match s.ppu.fgPixel with | some f => f.first | none => false) ∧
      (t.ppu.spriteZeroHit = true ↔ s.ppu.spriteZeroHit = true ∨
        (s.ppu.bgPixel.1 ≠ 0 ∧ s.ppu.fgPixel.isSome = true ∧ s.ppu.spr0Possible = true ∧ t.ppu.spr0Rendering = true ∧
          s.ppu.mask.getLsbD 3 = true ∧ s.ppu.mask.getLsbD 4 = true)) ∧
      (s.renderEnable = false → t.sink = s.sink) ∧
      (s.renderEnable = true → ∃ e : Pixel, t.sink = some e ∧ e.x + 1 = s.ppu.cycle ∧ (e.y : Int) = s.ppu.scanline ∧
        e.colour.toNat = (ppuRead (BitVec.ofNat 16
          (0x3F00 + (resolvePixel s.ppu.bgPixel s.ppu.fgPixel).toNat)) s).1.toNat % 64))) ∧
  (∀ s : State,
    let t := ppuClock s
    let clears := s.ppu.scanline = -1 ∧ s.ppu.cycle = 1
    let u := composePixel { t with sink := s.sink,
                                   ppu := { t.ppu with scanline := s.ppu.scanline,
                                                       cycle := if s.ppu.skips = true then 1 else s.ppu.cycle,
                                                       spriteZeroHit := if clears then false else s.ppu.spriteZeroHit,
                                                       spr0Rendering := if clears then false else s.ppu.spr0Rendering } }
    t.sink = u.sink ∧ t.ppu.spriteZeroHit = u.ppu.spriteZeroHit ∧ t.ppu.spr0Rendering = u.ppu.spr0Rendering)

-- Mappers

/-- Variant 0 with one program bank: both halves of the window show the same byte, and a write in it changes nothing
(`21_cartridge_mappers.md` R150; the masks are the spec's from general knowledge, that the write is discarded is R147,
decision D60). Character ROM is seen at its own addresses (R151). -/
def Obligations.FixedMapperMirrorsOneBank : Prop :=
  ∀ (a : Word) (v : Byte) (s : State), s.cart.mapper = .fixed → 0x8000 ≤ a.toNat →
    (∀ n : Nat, n < 0x2000 → 0 < s.cart.chrBanks → ppuRead (BitVec.ofNat 16 n) s = (s.byteAt (.chr n), s)) ∧
    (s.cart.prgBanks = 1 → memRead a s = memRead (a ^^^ 0x4000) s ∧
      memRead a s = (s.byteAt (.prg (a.toNat % 0x4000)), s)) ∧
    (1 < s.cart.prgBanks → memRead a s = (s.byteAt (.prg (a.toNat % 0x8000)), s)) ∧
    memWrite a v s = s

/-- The select registers of variants 2, 3 and 66: after a write in the ROM window the banks that its bits select are
read, character ROM of variant 2 at its own addresses, and the writes are reported unclaimed yet take effect
(`21_cartridge_mappers.md` R171, R172, R175, R176, R189, R190; the bit positions and decision D64 are the spec's own). -/
def Obligations.SelectRegistersSwitchBanks : Prop :=
  ∀ (a b : Word) (v : Byte) (s : State), 0x8000 ≤ a.toNat → 0x8000 ≤ b.toNat →
    let t := memWrite a v s
    let low := v.toNat % 16 * 0x4000 + b.toNat % 0x4000
    let wide := v.toNat / 16 % 4 * 0x8000 + b.toNat % 0x8000
    (∀ k : BitVec 4, s.cart.mapper = .lowBank k → (cpuMapWrite s.cart a v).1 = .unclaimed ∧
      (b.toNat < 0xC000 → low < s.cart.prgSize → memRead b t = (s.byteAt (.prg low), t)) ∧
      (0xC000 ≤ b.toNat → 1 ≤ s.cart.prgBanks →
        memRead b t = (s.byteAt (.prg ((s.cart.prgBanks - 1) * 0x4000 + b.toNat % 0x4000)), t)) ∧
      (∀ n : Nat, n < 0x2000 → 0 < s.cart.chrBanks →
        ppuRead (BitVec.ofNat 16 n) t = (s.byteAt (.chr n), t))) ∧
    (∀ k : BitVec 2, s.cart.mapper = .chrBank k → 1 ≤ s.cart.prgBanks → (cpuMapWrite s.cart a v).1 = .unclaimed ∧
      memRead b t = (s.byteAt (.prg (b.toNat % if 1 < s.cart.prgBanks then 0x8000 else 0x4000)), t) ∧
      (∀ n : Nat, n < 0x2000 → 0 < s.cart.chrBanks → v.toNat % 4 < s.cart.chrBanks →
        ppuRead (BitVec.ofNat 16 n) t = (s.byteAt (.chr (v.toNat % 4 * 0x2000 + n)), t))) ∧
    (∀ k l : BitVec 2, s.cart.mapper = .combined k l → (cpuMapWrite s.cart a v).1 = .unclaimed ∧
      (wide < s.cart.prgSize → memRead b t = (s.byteAt (.prg wide), t)) ∧
      (∀ n : Nat, n < 0x2000 → 0 < s.cart.chrBanks → v.toNat % 4 < s.cart.chrBanks →
        ppuRead (BitVec.ofNat 16 n) t = (s.byteAt (.chr (v.toNat % 4 * 0x2000 + n)), t)))

/-- The serial loader of variant 1: five writes with bit 7 clear put their bits 0, first lowest, in the register the
fifth address selects, and leave the loader empty; a write with bit 7 set empties it at any point and forces PRG mode
3 (`21_cartridge_mappers.md` R163; what the reset does to `control` is the spec's from general knowledge). The windows
those registers give, wherever the image holds the bank: 32 KiB in PRG modes 0 and 1, in mode 2 the first bank below
0xC000 and the selected one above, in mode 3 the selected one below and the last one above (R161); one 8 KiB or two 4
KiB character windows (R162); and the cartridge RAM at 0x6000 (R161). The formulas are general knowledge by the spec's
mark. -/
def Obligations.SerialMapperLoadsAndBanks : Prop :=
  (∀ (m : SerialMapper) (a0 a1 a2 a3 a4 : Word) (v0 v1 v2 v3 v4 : Byte) (s : State), s.cart.mapper = .serial m →
    (∀ a ∈ [a0, a1, a2, a3, a4], 0x8000 ≤ a.toNat) →
    (128 ≤ v0.toNat → (memWrite a0 v0 s).cart.mapper =
      .serial { m with load := 0, loadCount := 0, control := m.control ||| 0x0C }) ∧
    (m.loadCount = 0 → (∀ v ∈ [v0, v1, v2, v3, v4], v.toNat < 128) →
      let n := v0.toNat % 2 + 2 * (v1.toNat % 2) + 4 * (v2.toNat % 2) + 8 * (v3.toNat % 2) + 16 * (v4.toNat % 2)
      let w : BitVec 5 := BitVec.ofNat 5 n
      let t := memWrite a4 v4 (memWrite a3 v3 (memWrite a2 v2 (memWrite a1 v1 (memWrite a0 v0 s))))
      let e := { m with load := 0, loadCount := 0 }
      (a4.toNat < 0xA000 → t.cart.mapper = .serial { e with control := w, mirror := if n % 4 = 0 then .onescreenLo
        else if n % 4 = 1 then .onescreenHi else if n % 4 = 2 then .vertical else .horizontal }) ∧
      (0xA000 ≤ a4.toNat ∧ a4.toNat < 0xC000 → t.cart.mapper = .serial { e with chrLo := w }) ∧
      (0xC000 ≤ a4.toNat ∧ a4.toNat < 0xE000 → t.cart.mapper = .serial { e with chrHi := w }) ∧
      (0xE000 ≤ a4.toNat → t.cart.mapper = .serial { e with prg := BitVec.ofNat 4 n }))) ∧
  (∀ (m : SerialMapper) (a : Word) (n : Nat) (s : State), s.cart.mapper = .serial m →
    let mode := m.control.toNat / 4 % 4
    let shows := fun o : Nat => o < s.cart.prgSize → memRead a s = (s.byteAt (.prg o), s)
    let low := a.toNat % 0x4000
    (0x8000 ≤ a.toNat → mode < 2 → shows (m.prg.toNat / 2 * 0x8000 + a.toNat % 0x8000)) ∧
    (0x8000 ≤ a.toNat ∧ a.toNat < 0xC000 → mode = 2 → shows low) ∧
    (0xC000 ≤ a.toNat → mode = 2 → shows (m.prg.toNat * 0x4000 + low)) ∧
    (0x8000 ≤ a.toNat ∧ a.toNat < 0xC000 → mode = 3 → shows (m.prg.toNat * 0x4000 + low)) ∧
    (0xC000 ≤ a.toNat → mode = 3 → shows ((s.cart.prgBanks - 1) * 0x4000 + low)) ∧
    (0x6000 ≤ a.toNat ∧ a.toNat < 0x8000 → memRead a s = (s.byteAt (.cram (a.toNat - 0x6000)), s)) ∧
    (n < 0x2000 → 0 < s.cart.chrBanks →
      let o := if m.control.toNat < 16 then m.chrLo.toNat / 2 * 0x2000 + n
        else if n < 0x1000 then m.chrLo.toNat * 0x1000 + n else m.chrHi.toNat * 0x1000 + (n - 0x1000)
      o < s.cart.chrSize → ppuRead (BitVec.ofNat 16 n) s = (s.byteAt (.chr o), s)))

/-- Variant 4. Register map: what a write at each of the eight combinations of `a[14:13]` and `a[0]` changes
(`21_cartridge_mappers.md` R183). Program side, in either PRG mode: registers 6 and 7 show their 8 KiB banks in the
windows the mode gives them, the second-to-last bank is in the window the mode leaves, the last bank at 0xE000, and the
cartridge RAM at 0x6000 (R181). Character side: six registers give the eight 1 KiB slices, the two halves changed over
in the inverted layout (R182). Scanline counter, from 0 and enabled: it asserts at the call numbered one more than the
reload value, not before, and stays asserted (R184). The layout and the reload-then-test order are the spec's from
general knowledge. -/
def Obligations.TargetMapperBanksAndScanlineCounter : Prop :=
  (∀ (m : TargetMapper) (a : Word) (v : Byte) (s : State), s.cart.mapper = .target m → 0x8000 ≤ a.toNat →
    let even := a.toNat % 2 = 0
    let range := (a.toNat - 0x8000) / 0x2000
    ∃ u : TargetMapper, (memWrite a v s).cart.mapper = .target u ∧
      (range = 0 ∧ even → u = { m with target := u.target, prgMode := v.getLsbD 6, chrInv := v.getLsbD 7 } ∧
        u.target.toNat = v.toNat % 8) ∧
      (range = 0 ∧ ¬even → u.regs = m.regs.set m.target.toNat v ∧ u = m.withRegsOf u) ∧
      (range = 1 ∧ even → u = { m with mirror := if v.toNat % 2 = 1 then .horizontal else .vertical }) ∧
      (range = 1 ∧ ¬even → u = m) ∧
      (range = 2 ∧ even → u = { m with irqReload := v }) ∧
      (range = 2 ∧ ¬even → u = { m with irqCounter := 0 }) ∧
      (range = 3 ∧ even → u = { m with irqEnable := false, irqActive := false }) ∧
      (range = 3 ∧ ¬even → u = { m with irqEnable := true })) ∧
  (∀ (m : TargetMapper) (a : Word) (s : State), s.cart.mapper = .target m → 1 ≤ s.cart.prgBanks →
    let shows := fun bank : Nat => bank < 2 * s.cart.prgBanks →
      memRead a s = (s.byteAt (.prg (bank * 0x2000 + a.toNat % 0x2000)), s)
    let second := 2 * s.cart.prgBanks - 2
    (0x8000 ≤ a.toNat ∧ a.toNat < 0xA000 → shows (if m.prgMode = true then second else m.r6.toNat % 64)) ∧
    (0xA000 ≤ a.toNat ∧ a.toNat < 0xC000 → shows (m.r7.toNat % 64)) ∧
    (0xC000 ≤ a.toNat ∧ a.toNat < 0xE000 → shows (if m.prgMode = true then m.r6.toNat % 64 else second)) ∧
    (0xE000 ≤ a.toNat → shows (2 * s.cart.prgBanks - 1)) ∧
    (0x6000 ≤ a.toNat ∧ a.toNat < 0x8000 → memRead a s = (s.byteAt (.cram (a.toNat - 0x6000)), s))) ∧
  (∀ (m : TargetMapper) (n : Nat) (s : State), s.cart.mapper = .target m → n < 0x2000 → 0 < s.cart.chrBanks →
    let pairs := [m.r0.toNat / 2 * 2, m.r0.toNat / 2 * 2 + 1, m.r1.toNat / 2 * 2, m.r1.toNat / 2 * 2 + 1]
    let singles := [m.r2.toNat, m.r3.toNat, m.r4.toNat, m.r5.toNat]
    ∀ bank : Nat, (if m.chrInv = true then singles ++ pairs else pairs ++ singles)[n / 0x400]? = some bank →
      bank * 0x400 + n % 0x400 < s.cart.chrSize →
        ppuRead (BitVec.ofNat 16 n) s = (s.byteAt (.chr (bank * 0x400 + n % 0x400)), s)) ∧
  (∀ (m : TargetMapper) (n : Nat), m.irqCounter = 0 → m.irqEnable = true → m.irqActive = false →
    (Nat.iterate TargetMapper.scanline n m).irqActive = decide (m.irqReload.toNat + 1 ≤ n))
end

