-- ==== Sys2Proof/Laws/Memory.lean ====
section
/-! SUPPORT. The laws of a memory: what a write does to every address, and that each operation keeps the canonical
form and the size. -/
namespace Sys2Proof.Machine

@[simp] theorem Memory.read_nil (a : Nat) : Memory.read [] a = Memory.unlisted := rfl

/-- A cell list in canonical form from `lo` up reads as unlisted below `lo`. -/
theorem Memory.read_below {m : Memory} {lo a : Nat} (h : m.wfFrom lo = true) (ha : a < lo) :
    m.read a = Memory.unlisted := by
  induction m generalizing lo with
  | nil => rfl
  | cons c m ih =>
    obtain ⟨k, w⟩ := c
    simp only [Memory.wfFrom, Bool.and_eq_true, decide_eq_true_eq] at h
    obtain ⟨⟨hk, -⟩, hm⟩ := h
    simp only [Memory.read, if_neg (show a ≠ k by omega)]
    exact ih hm (by omega)

theorem Memory.read_write_same_from {m : Memory} {lo : Nat} (h : m.wfFrom lo = true) (a : Nat) (v : Byte) :
    (m.write a v).read a = v := by
  induction m generalizing lo with
  | nil => by_cases hv : v = Memory.unlisted <;> simp [Memory.write, Memory.read, hv]
  | cons c m ih =>
    obtain ⟨k, w⟩ := c
    simp only [Memory.wfFrom, Bool.and_eq_true, decide_eq_true_eq] at h
    obtain ⟨⟨hk, -⟩, hm⟩ := h
    simp only [Memory.write]
    split
    · split
      · rename_i hlt hv
        simp [Memory.read, show a ≠ k by omega, Memory.read_below hm (show a < k + 1 by omega), hv]
      · simp [Memory.read]
    · split
      · split
        · rename_i hak hv
          rw [Memory.read_below hm (by omega), hv]
        · simp [Memory.read]
      · simp only [Memory.read, if_neg (show a ≠ k by assumption)]
        exact ih hm

/-- A read of the address just written gives the byte written. -/
theorem Memory.read_write_same {m : Memory} (h : m.wf = true) (a : Nat) (v : Byte) : (m.write a v).read a = v :=
  Memory.read_write_same_from h a v

/-- A write leaves every other address alone, in any list of cells. -/
theorem Memory.read_write_other (m : Memory) {a b : Nat} (v : Byte) (h : b ≠ a) : (m.write a v).read b = m.read b := by
  induction m with
  | nil => by_cases hv : v = Memory.unlisted <;> simp [Memory.write, Memory.read, hv, h]
  | cons c m ih =>
    obtain ⟨k, w⟩ := c
    simp only [Memory.write]
    split
    · split <;> simp [Memory.read, h]
    · split
      · rename_i hak
        subst hak
        split <;> simp [Memory.read, h]
      · simp [Memory.read, ih]

/-- What a write does to every address. -/
theorem Memory.read_write {m : Memory} (h : m.wf = true) (a b : Nat) (v : Byte) :
    (m.write a v).read b = if b = a then v else m.read b := by
  split
  · rename_i hb; rw [hb, Memory.read_write_same h]
  · exact Memory.read_write_other m v (by assumption)

theorem Memory.wfFrom_mono {m : Memory} {lo lo' : Nat} (h : m.wfFrom lo = true) (hl : lo' ≤ lo) :
    m.wfFrom lo' = true := by
  cases m with
  | nil => rfl
  | cons c m =>
    simp only [Memory.wfFrom, Bool.and_eq_true, decide_eq_true_eq] at h ⊢
    exact ⟨⟨by omega, h.1.2⟩, h.2⟩

theorem Memory.wfFrom_write {m : Memory} {lo : Nat} (h : m.wfFrom lo = true) {a : Nat} (ha : lo ≤ a) (v : Byte) :
    (m.write a v).wfFrom lo = true := by
  induction m generalizing lo with
  | nil => by_cases hv : v = Memory.unlisted <;> simp [Memory.write, Memory.wfFrom, hv, ha]
  | cons c m ih =>
    obtain ⟨k, w⟩ := c
    have h' := h
    simp only [Memory.wfFrom, Bool.and_eq_true, decide_eq_true_eq] at h
    obtain ⟨⟨hk, hw⟩, hm⟩ := h
    simp only [Memory.write]
    split
    · split
      · exact h'
      · rename_i hlt hv
        simp [Memory.wfFrom, ha, hv, hw, hm, show a + 1 ≤ k by omega]
    · split
      · split
        · exact Memory.wfFrom_mono hm (by omega)
        · rename_i hak hv
          subst hak
          simp [Memory.wfFrom, hk, hv, hm]
      · simp [Memory.wfFrom, hk, hw, ih hm (show k + 1 ≤ a by omega)]

/-- A write keeps the canonical form. -/
theorem Memory.wf_write {m : Memory} (h : m.wf = true) (a : Nat) (v : Byte) : (m.write a v).wf = true :=
  Memory.wfFrom_write h (Nat.zero_le a) v

/-- A write below the size keeps the size. -/
theorem Memory.within_write {m : Memory} {size a : Nat} (h : m.within size = true) (ha : a < size) (v : Byte) :
    (m.write a v).within size = true := by
  induction m with
  | nil => by_cases hv : v = Memory.unlisted <;> simp [Memory.write, Memory.within, hv, ha]
  | cons c m ih =>
    obtain ⟨k, w⟩ := c
    have h' := h
    simp only [Memory.within, List.all_cons, Bool.and_eq_true, decide_eq_true_eq] at h
    have ih' := ih h.2
    have hm := h.2
    simp only [Memory.within] at ih' h' ⊢
    simp only [Memory.write]
    split
    · split
      · exact h'
      · simp only [List.all_cons] at h' ⊢; simp [ha]; simpa using h'
    · split
      · split
        · exact hm
        · simp only [List.all_cons]; simp [ha]; simpa using hm
      · simp only [List.all_cons, ih', Bool.and_true]; simpa using h.1

/-- The memory of an image is in canonical form. -/
theorem Memory.wf_ofBytes (base : Nat) (l : List Byte) : (Memory.ofBytes base l).wfFrom base = true := by
  induction l generalizing base with
  | nil => rfl
  | cons v l ih =>
    simp only [Memory.ofBytes]
    split
    · exact Memory.wfFrom_mono (ih (base + 1)) (by omega)
    · rename_i hv
      simp [Memory.wfFrom, hv, ih (base + 1)]

/-- Equal bytes at every address make equal memories: the form is canonical. -/
theorem Memory.ext_from {m n : Memory} {lo : Nat} (hm : m.wfFrom lo = true) (hn : n.wfFrom lo = true)
    (h : ∀ a : Nat, m.read a = n.read a) : m = n := by
  induction m generalizing n lo with
  | nil =>
    cases n with
    | nil => rfl
    | cons c n =>
      simp only [Memory.wfFrom, Bool.and_eq_true, decide_eq_true_eq] at hn
      have := h c.1
      simp only [Memory.read] at this
      exact absurd this.symm (by simpa using hn.1.2)
  | cons c m ih =>
    obtain ⟨k, w⟩ := c
    have hm' := hm
    simp only [Memory.wfFrom, Bool.and_eq_true, decide_eq_true_eq] at hm
    cases n with
    | nil =>
      have := h k
      simp only [Memory.read, if_true] at this
      exact absurd this hm.1.2
    | cons d n =>
      obtain ⟨j, u⟩ := d
      have hn' := hn
      simp only [Memory.wfFrom, Bool.and_eq_true, decide_eq_true_eq] at hn
      have hkj : k = j := by
        rcases Nat.lt_trichotomy k j with hlt | heq | hgt
        · have := h k
          simp only [Memory.read, if_true, if_neg (show k ≠ j by omega),
            Memory.read_below hn.2 (show k < j + 1 by omega)] at this
          exact absurd this hm.1.2
        · exact heq
        · have := h j
          simp only [Memory.read, if_true, if_neg (show j ≠ k by omega),
            Memory.read_below hm.2 (show j < k + 1 by omega)] at this
          exact absurd this.symm hn.1.2
      subst hkj
      have hwu : w = u := by simpa [Memory.read] using h k
      subst hwu
      congr 1
      refine ih hm.2 hn.2 (fun a => ?_)
      by_cases ha : a = k
      · subst ha
        rw [Memory.read_below hm.2 (by omega), Memory.read_below hn.2 (by omega)]
      · simpa [Memory.read, ha] using h a

/-- Two memories in canonical form with the same bytes are equal. -/
theorem Memory.ext {m n : Memory} (hm : m.wf = true) (hn : n.wf = true) (h : ∀ a : Nat, m.read a = n.read a) :
    m = n :=
  Memory.ext_from hm hn h

end Sys2Proof.Machine
end

