-- ==== Sys2Proof/Laws/State.lean ====
section
/-! SUPPORT. One lemma per field of the state and per update of it, so that no proof unfolds a record update. -/
namespace Sys2Proof.Machine

section
variable (v : Cpu) (s : State)
@[simp] theorem State.setCpu_cpu : (s.setCpu v).cpu = v := rfl
@[simp] theorem State.setCpu_ram : (s.setCpu v).ram = s.ram := rfl
@[simp] theorem State.setCpu_controller0 : (s.setCpu v).controller0 = s.controller0 := rfl
@[simp] theorem State.setCpu_controller1 : (s.setCpu v).controller1 = s.controller1 := rfl
@[simp] theorem State.setCpu_latch0 : (s.setCpu v).latch0 = s.latch0 := rfl
@[simp] theorem State.setCpu_latch1 : (s.setCpu v).latch1 = s.latch1 := rfl
@[simp] theorem State.setCpu_clock : (s.setCpu v).clock = s.clock := rfl
@[simp] theorem State.setCpu_dma : (s.setCpu v).dma = s.dma := rfl
@[simp] theorem State.setCpu_ppu : (s.setCpu v).ppu = s.ppu := rfl
@[simp] theorem State.setCpu_cart : (s.setCpu v).cart = s.cart := rfl
@[simp] theorem State.setCpu_params : (s.setCpu v).params = s.params := rfl
@[simp] theorem State.setCpu_renderEnable : (s.setCpu v).renderEnable = s.renderEnable := rfl
@[simp] theorem State.setCpu_sink : (s.setCpu v).sink = s.sink := rfl
@[simp] theorem State.setCpu_freeIndex : (s.setCpu v).freeIndex = s.freeIndex := rfl
end

section
variable (v : Memory) (s : State)
@[simp] theorem State.setRam_cpu : (s.setRam v).cpu = s.cpu := rfl
@[simp] theorem State.setRam_ram : (s.setRam v).ram = v := rfl
@[simp] theorem State.setRam_controller0 : (s.setRam v).controller0 = s.controller0 := rfl
@[simp] theorem State.setRam_controller1 : (s.setRam v).controller1 = s.controller1 := rfl
@[simp] theorem State.setRam_latch0 : (s.setRam v).latch0 = s.latch0 := rfl
@[simp] theorem State.setRam_latch1 : (s.setRam v).latch1 = s.latch1 := rfl
@[simp] theorem State.setRam_clock : (s.setRam v).clock = s.clock := rfl
@[simp] theorem State.setRam_dma : (s.setRam v).dma = s.dma := rfl
@[simp] theorem State.setRam_ppu : (s.setRam v).ppu = s.ppu := rfl
@[simp] theorem State.setRam_cart : (s.setRam v).cart = s.cart := rfl
@[simp] theorem State.setRam_params : (s.setRam v).params = s.params := rfl
@[simp] theorem State.setRam_renderEnable : (s.setRam v).renderEnable = s.renderEnable := rfl
@[simp] theorem State.setRam_sink : (s.setRam v).sink = s.sink := rfl
@[simp] theorem State.setRam_freeIndex : (s.setRam v).freeIndex = s.freeIndex := rfl
end

section
variable (v : Byte) (s : State)
@[simp] theorem State.setController0_cpu : (s.setController0 v).cpu = s.cpu := rfl
@[simp] theorem State.setController0_ram : (s.setController0 v).ram = s.ram := rfl
@[simp] theorem State.setController0_controller0 : (s.setController0 v).controller0 = v := rfl
@[simp] theorem State.setController0_controller1 : (s.setController0 v).controller1 = s.controller1 := rfl
@[simp] theorem State.setController0_latch0 : (s.setController0 v).latch0 = s.latch0 := rfl
@[simp] theorem State.setController0_latch1 : (s.setController0 v).latch1 = s.latch1 := rfl
@[simp] theorem State.setController0_clock : (s.setController0 v).clock = s.clock := rfl
@[simp] theorem State.setController0_dma : (s.setController0 v).dma = s.dma := rfl
@[simp] theorem State.setController0_ppu : (s.setController0 v).ppu = s.ppu := rfl
@[simp] theorem State.setController0_cart : (s.setController0 v).cart = s.cart := rfl
@[simp] theorem State.setController0_params : (s.setController0 v).params = s.params := rfl
@[simp] theorem State.setController0_renderEnable : (s.setController0 v).renderEnable = s.renderEnable := rfl
@[simp] theorem State.setController0_sink : (s.setController0 v).sink = s.sink := rfl
@[simp] theorem State.setController0_freeIndex : (s.setController0 v).freeIndex = s.freeIndex := rfl
end

section
variable (v : Byte) (s : State)
@[simp] theorem State.setController1_cpu : (s.setController1 v).cpu = s.cpu := rfl
@[simp] theorem State.setController1_ram : (s.setController1 v).ram = s.ram := rfl
@[simp] theorem State.setController1_controller0 : (s.setController1 v).controller0 = s.controller0 := rfl
@[simp] theorem State.setController1_controller1 : (s.setController1 v).controller1 = v := rfl
@[simp] theorem State.setController1_latch0 : (s.setController1 v).latch0 = s.latch0 := rfl
@[simp] theorem State.setController1_latch1 : (s.setController1 v).latch1 = s.latch1 := rfl
@[simp] theorem State.setController1_clock : (s.setController1 v).clock = s.clock := rfl
@[simp] theorem State.setController1_dma : (s.setController1 v).dma = s.dma := rfl
@[simp] theorem State.setController1_ppu : (s.setController1 v).ppu = s.ppu := rfl
@[simp] theorem State.setController1_cart : (s.setController1 v).cart = s.cart := rfl
@[simp] theorem State.setController1_params : (s.setController1 v).params = s.params := rfl
@[simp] theorem State.setController1_renderEnable : (s.setController1 v).renderEnable = s.renderEnable := rfl
@[simp] theorem State.setController1_sink : (s.setController1 v).sink = s.sink := rfl
@[simp] theorem State.setController1_freeIndex : (s.setController1 v).freeIndex = s.freeIndex := rfl
end

section
variable (v : Byte) (s : State)
@[simp] theorem State.setLatch0_cpu : (s.setLatch0 v).cpu = s.cpu := rfl
@[simp] theorem State.setLatch0_ram : (s.setLatch0 v).ram = s.ram := rfl
@[simp] theorem State.setLatch0_controller0 : (s.setLatch0 v).controller0 = s.controller0 := rfl
@[simp] theorem State.setLatch0_controller1 : (s.setLatch0 v).controller1 = s.controller1 := rfl
@[simp] theorem State.setLatch0_latch0 : (s.setLatch0 v).latch0 = v := rfl
@[simp] theorem State.setLatch0_latch1 : (s.setLatch0 v).latch1 = s.latch1 := rfl
@[simp] theorem State.setLatch0_clock : (s.setLatch0 v).clock = s.clock := rfl
@[simp] theorem State.setLatch0_dma : (s.setLatch0 v).dma = s.dma := rfl
@[simp] theorem State.setLatch0_ppu : (s.setLatch0 v).ppu = s.ppu := rfl
@[simp] theorem State.setLatch0_cart : (s.setLatch0 v).cart = s.cart := rfl
@[simp] theorem State.setLatch0_params : (s.setLatch0 v).params = s.params := rfl
@[simp] theorem State.setLatch0_renderEnable : (s.setLatch0 v).renderEnable = s.renderEnable := rfl
@[simp] theorem State.setLatch0_sink : (s.setLatch0 v).sink = s.sink := rfl
@[simp] theorem State.setLatch0_freeIndex : (s.setLatch0 v).freeIndex = s.freeIndex := rfl
end

section
variable (v : Byte) (s : State)
@[simp] theorem State.setLatch1_cpu : (s.setLatch1 v).cpu = s.cpu := rfl
@[simp] theorem State.setLatch1_ram : (s.setLatch1 v).ram = s.ram := rfl
@[simp] theorem State.setLatch1_controller0 : (s.setLatch1 v).controller0 = s.controller0 := rfl
@[simp] theorem State.setLatch1_controller1 : (s.setLatch1 v).controller1 = s.controller1 := rfl
@[simp] theorem State.setLatch1_latch0 : (s.setLatch1 v).latch0 = s.latch0 := rfl
@[simp] theorem State.setLatch1_latch1 : (s.setLatch1 v).latch1 = v := rfl
@[simp] theorem State.setLatch1_clock : (s.setLatch1 v).clock = s.clock := rfl
@[simp] theorem State.setLatch1_dma : (s.setLatch1 v).dma = s.dma := rfl
@[simp] theorem State.setLatch1_ppu : (s.setLatch1 v).ppu = s.ppu := rfl
@[simp] theorem State.setLatch1_cart : (s.setLatch1 v).cart = s.cart := rfl
@[simp] theorem State.setLatch1_params : (s.setLatch1 v).params = s.params := rfl
@[simp] theorem State.setLatch1_renderEnable : (s.setLatch1 v).renderEnable = s.renderEnable := rfl
@[simp] theorem State.setLatch1_sink : (s.setLatch1 v).sink = s.sink := rfl
@[simp] theorem State.setLatch1_freeIndex : (s.setLatch1 v).freeIndex = s.freeIndex := rfl
end

section
variable (v : Nat) (s : State)
@[simp] theorem State.setClock_cpu : (s.setClock v).cpu = s.cpu := rfl
@[simp] theorem State.setClock_ram : (s.setClock v).ram = s.ram := rfl
@[simp] theorem State.setClock_controller0 : (s.setClock v).controller0 = s.controller0 := rfl
@[simp] theorem State.setClock_controller1 : (s.setClock v).controller1 = s.controller1 := rfl
@[simp] theorem State.setClock_latch0 : (s.setClock v).latch0 = s.latch0 := rfl
@[simp] theorem State.setClock_latch1 : (s.setClock v).latch1 = s.latch1 := rfl
@[simp] theorem State.setClock_clock : (s.setClock v).clock = v := rfl
@[simp] theorem State.setClock_dma : (s.setClock v).dma = s.dma := rfl
@[simp] theorem State.setClock_ppu : (s.setClock v).ppu = s.ppu := rfl
@[simp] theorem State.setClock_cart : (s.setClock v).cart = s.cart := rfl
@[simp] theorem State.setClock_params : (s.setClock v).params = s.params := rfl
@[simp] theorem State.setClock_renderEnable : (s.setClock v).renderEnable = s.renderEnable := rfl
@[simp] theorem State.setClock_sink : (s.setClock v).sink = s.sink := rfl
@[simp] theorem State.setClock_freeIndex : (s.setClock v).freeIndex = s.freeIndex := rfl
end

section
variable (v : Dma) (s : State)
@[simp] theorem State.setDma_cpu : (s.setDma v).cpu = s.cpu := rfl
@[simp] theorem State.setDma_ram : (s.setDma v).ram = s.ram := rfl
@[simp] theorem State.setDma_controller0 : (s.setDma v).controller0 = s.controller0 := rfl
@[simp] theorem State.setDma_controller1 : (s.setDma v).controller1 = s.controller1 := rfl
@[simp] theorem State.setDma_latch0 : (s.setDma v).latch0 = s.latch0 := rfl
@[simp] theorem State.setDma_latch1 : (s.setDma v).latch1 = s.latch1 := rfl
@[simp] theorem State.setDma_clock : (s.setDma v).clock = s.clock := rfl
@[simp] theorem State.setDma_dma : (s.setDma v).dma = v := rfl
@[simp] theorem State.setDma_ppu : (s.setDma v).ppu = s.ppu := rfl
@[simp] theorem State.setDma_cart : (s.setDma v).cart = s.cart := rfl
@[simp] theorem State.setDma_params : (s.setDma v).params = s.params := rfl
@[simp] theorem State.setDma_renderEnable : (s.setDma v).renderEnable = s.renderEnable := rfl
@[simp] theorem State.setDma_sink : (s.setDma v).sink = s.sink := rfl
@[simp] theorem State.setDma_freeIndex : (s.setDma v).freeIndex = s.freeIndex := rfl
end

section
variable (v : Ppu) (s : State)
@[simp] theorem State.setPpu_cpu : (s.setPpu v).cpu = s.cpu := rfl
@[simp] theorem State.setPpu_ram : (s.setPpu v).ram = s.ram := rfl
@[simp] theorem State.setPpu_controller0 : (s.setPpu v).controller0 = s.controller0 := rfl
@[simp] theorem State.setPpu_controller1 : (s.setPpu v).controller1 = s.controller1 := rfl
@[simp] theorem State.setPpu_latch0 : (s.setPpu v).latch0 = s.latch0 := rfl
@[simp] theorem State.setPpu_latch1 : (s.setPpu v).latch1 = s.latch1 := rfl
@[simp] theorem State.setPpu_clock : (s.setPpu v).clock = s.clock := rfl
@[simp] theorem State.setPpu_dma : (s.setPpu v).dma = s.dma := rfl
@[simp] theorem State.setPpu_ppu : (s.setPpu v).ppu = v := rfl
@[simp] theorem State.setPpu_cart : (s.setPpu v).cart = s.cart := rfl
@[simp] theorem State.setPpu_params : (s.setPpu v).params = s.params := rfl
@[simp] theorem State.setPpu_renderEnable : (s.setPpu v).renderEnable = s.renderEnable := rfl
@[simp] theorem State.setPpu_sink : (s.setPpu v).sink = s.sink := rfl
@[simp] theorem State.setPpu_freeIndex : (s.setPpu v).freeIndex = s.freeIndex := rfl
end

section
variable (v : Cartridge) (s : State)
@[simp] theorem State.setCart_cpu : (s.setCart v).cpu = s.cpu := rfl
@[simp] theorem State.setCart_ram : (s.setCart v).ram = s.ram := rfl
@[simp] theorem State.setCart_controller0 : (s.setCart v).controller0 = s.controller0 := rfl
@[simp] theorem State.setCart_controller1 : (s.setCart v).controller1 = s.controller1 := rfl
@[simp] theorem State.setCart_latch0 : (s.setCart v).latch0 = s.latch0 := rfl
@[simp] theorem State.setCart_latch1 : (s.setCart v).latch1 = s.latch1 := rfl
@[simp] theorem State.setCart_clock : (s.setCart v).clock = s.clock := rfl
@[simp] theorem State.setCart_dma : (s.setCart v).dma = s.dma := rfl
@[simp] theorem State.setCart_ppu : (s.setCart v).ppu = s.ppu := rfl
@[simp] theorem State.setCart_cart : (s.setCart v).cart = v := rfl
@[simp] theorem State.setCart_params : (s.setCart v).params = s.params := rfl
@[simp] theorem State.setCart_renderEnable : (s.setCart v).renderEnable = s.renderEnable := rfl
@[simp] theorem State.setCart_sink : (s.setCart v).sink = s.sink := rfl
@[simp] theorem State.setCart_freeIndex : (s.setCart v).freeIndex = s.freeIndex := rfl
end

section
variable (v : Bool) (s : State)
@[simp] theorem State.setRenderEnable_cpu : (s.setRenderEnable v).cpu = s.cpu := rfl
@[simp] theorem State.setRenderEnable_ram : (s.setRenderEnable v).ram = s.ram := rfl
@[simp] theorem State.setRenderEnable_controller0 : (s.setRenderEnable v).controller0 = s.controller0 := rfl
@[simp] theorem State.setRenderEnable_controller1 : (s.setRenderEnable v).controller1 = s.controller1 := rfl
@[simp] theorem State.setRenderEnable_latch0 : (s.setRenderEnable v).latch0 = s.latch0 := rfl
@[simp] theorem State.setRenderEnable_latch1 : (s.setRenderEnable v).latch1 = s.latch1 := rfl
@[simp] theorem State.setRenderEnable_clock : (s.setRenderEnable v).clock = s.clock := rfl
@[simp] theorem State.setRenderEnable_dma : (s.setRenderEnable v).dma = s.dma := rfl
@[simp] theorem State.setRenderEnable_ppu : (s.setRenderEnable v).ppu = s.ppu := rfl
@[simp] theorem State.setRenderEnable_cart : (s.setRenderEnable v).cart = s.cart := rfl
@[simp] theorem State.setRenderEnable_params : (s.setRenderEnable v).params = s.params := rfl
@[simp] theorem State.setRenderEnable_renderEnable : (s.setRenderEnable v).renderEnable = v := rfl
@[simp] theorem State.setRenderEnable_sink : (s.setRenderEnable v).sink = s.sink := rfl
@[simp] theorem State.setRenderEnable_freeIndex : (s.setRenderEnable v).freeIndex = s.freeIndex := rfl
end

section
variable (v : Option Pixel) (s : State)
@[simp] theorem State.setSink_cpu : (s.setSink v).cpu = s.cpu := rfl
@[simp] theorem State.setSink_ram : (s.setSink v).ram = s.ram := rfl
@[simp] theorem State.setSink_controller0 : (s.setSink v).controller0 = s.controller0 := rfl
@[simp] theorem State.setSink_controller1 : (s.setSink v).controller1 = s.controller1 := rfl
@[simp] theorem State.setSink_latch0 : (s.setSink v).latch0 = s.latch0 := rfl
@[simp] theorem State.setSink_latch1 : (s.setSink v).latch1 = s.latch1 := rfl
@[simp] theorem State.setSink_clock : (s.setSink v).clock = s.clock := rfl
@[simp] theorem State.setSink_dma : (s.setSink v).dma = s.dma := rfl
@[simp] theorem State.setSink_ppu : (s.setSink v).ppu = s.ppu := rfl
@[simp] theorem State.setSink_cart : (s.setSink v).cart = s.cart := rfl
@[simp] theorem State.setSink_params : (s.setSink v).params = s.params := rfl
@[simp] theorem State.setSink_renderEnable : (s.setSink v).renderEnable = s.renderEnable := rfl
@[simp] theorem State.setSink_sink : (s.setSink v).sink = v := rfl
@[simp] theorem State.setSink_freeIndex : (s.setSink v).freeIndex = s.freeIndex := rfl
end

section
variable (v : Nat) (s : State)
@[simp] theorem State.setFreeIndex_cpu : (s.setFreeIndex v).cpu = s.cpu := rfl
@[simp] theorem State.setFreeIndex_ram : (s.setFreeIndex v).ram = s.ram := rfl
@[simp] theorem State.setFreeIndex_controller0 : (s.setFreeIndex v).controller0 = s.controller0 := rfl
@[simp] theorem State.setFreeIndex_controller1 : (s.setFreeIndex v).controller1 = s.controller1 := rfl
@[simp] theorem State.setFreeIndex_latch0 : (s.setFreeIndex v).latch0 = s.latch0 := rfl
@[simp] theorem State.setFreeIndex_latch1 : (s.setFreeIndex v).latch1 = s.latch1 := rfl
@[simp] theorem State.setFreeIndex_clock : (s.setFreeIndex v).clock = s.clock := rfl
@[simp] theorem State.setFreeIndex_dma : (s.setFreeIndex v).dma = s.dma := rfl
@[simp] theorem State.setFreeIndex_ppu : (s.setFreeIndex v).ppu = s.ppu := rfl
@[simp] theorem State.setFreeIndex_cart : (s.setFreeIndex v).cart = s.cart := rfl
@[simp] theorem State.setFreeIndex_params : (s.setFreeIndex v).params = s.params := rfl
@[simp] theorem State.setFreeIndex_renderEnable : (s.setFreeIndex v).renderEnable = s.renderEnable := rfl
@[simp] theorem State.setFreeIndex_sink : (s.setFreeIndex v).sink = s.sink := rfl
@[simp] theorem State.setFreeIndex_freeIndex : (s.setFreeIndex v).freeIndex = v := rfl
end

section
variable (v : Mapper) (s : State)
@[simp] theorem State.setMapper_cpu : (s.setMapper v).cpu = s.cpu := rfl
@[simp] theorem State.setMapper_ram : (s.setMapper v).ram = s.ram := rfl
@[simp] theorem State.setMapper_controller0 : (s.setMapper v).controller0 = s.controller0 := rfl
@[simp] theorem State.setMapper_controller1 : (s.setMapper v).controller1 = s.controller1 := rfl
@[simp] theorem State.setMapper_latch0 : (s.setMapper v).latch0 = s.latch0 := rfl
@[simp] theorem State.setMapper_latch1 : (s.setMapper v).latch1 = s.latch1 := rfl
@[simp] theorem State.setMapper_clock : (s.setMapper v).clock = s.clock := rfl
@[simp] theorem State.setMapper_dma : (s.setMapper v).dma = s.dma := rfl
@[simp] theorem State.setMapper_ppu : (s.setMapper v).ppu = s.ppu := rfl
@[simp] theorem State.setMapper_cart : (s.setMapper v).cart = { s.cart with mapper := v } := rfl
@[simp] theorem State.setMapper_params : (s.setMapper v).params = s.params := rfl
@[simp] theorem State.setMapper_renderEnable : (s.setMapper v).renderEnable = s.renderEnable := rfl
@[simp] theorem State.setMapper_sink : (s.setMapper v).sink = s.sink := rfl
@[simp] theorem State.setMapper_freeIndex : (s.setMapper v).freeIndex = s.freeIndex := rfl
end

section
variable (v : Byte) (s : State)
@[simp] theorem State.setA_cpu : (s.setA v).cpu = { s.cpu with a := v } := rfl
@[simp] theorem State.setA_ram : (s.setA v).ram = s.ram := rfl
@[simp] theorem State.setA_controller0 : (s.setA v).controller0 = s.controller0 := rfl
@[simp] theorem State.setA_controller1 : (s.setA v).controller1 = s.controller1 := rfl
@[simp] theorem State.setA_latch0 : (s.setA v).latch0 = s.latch0 := rfl
@[simp] theorem State.setA_latch1 : (s.setA v).latch1 = s.latch1 := rfl
@[simp] theorem State.setA_clock : (s.setA v).clock = s.clock := rfl
@[simp] theorem State.setA_dma : (s.setA v).dma = s.dma := rfl
@[simp] theorem State.setA_ppu : (s.setA v).ppu = s.ppu := rfl
@[simp] theorem State.setA_cart : (s.setA v).cart = s.cart := rfl
@[simp] theorem State.setA_params : (s.setA v).params = s.params := rfl
@[simp] theorem State.setA_renderEnable : (s.setA v).renderEnable = s.renderEnable := rfl
@[simp] theorem State.setA_sink : (s.setA v).sink = s.sink := rfl
@[simp] theorem State.setA_freeIndex : (s.setA v).freeIndex = s.freeIndex := rfl
end

section
variable (v : Byte) (s : State)
@[simp] theorem State.setX_cpu : (s.setX v).cpu = { s.cpu with x := v } := rfl
@[simp] theorem State.setX_ram : (s.setX v).ram = s.ram := rfl
@[simp] theorem State.setX_controller0 : (s.setX v).controller0 = s.controller0 := rfl
@[simp] theorem State.setX_controller1 : (s.setX v).controller1 = s.controller1 := rfl
@[simp] theorem State.setX_latch0 : (s.setX v).latch0 = s.latch0 := rfl
@[simp] theorem State.setX_latch1 : (s.setX v).latch1 = s.latch1 := rfl
@[simp] theorem State.setX_clock : (s.setX v).clock = s.clock := rfl
@[simp] theorem State.setX_dma : (s.setX v).dma = s.dma := rfl
@[simp] theorem State.setX_ppu : (s.setX v).ppu = s.ppu := rfl
@[simp] theorem State.setX_cart : (s.setX v).cart = s.cart := rfl
@[simp] theorem State.setX_params : (s.setX v).params = s.params := rfl
@[simp] theorem State.setX_renderEnable : (s.setX v).renderEnable = s.renderEnable := rfl
@[simp] theorem State.setX_sink : (s.setX v).sink = s.sink := rfl
@[simp] theorem State.setX_freeIndex : (s.setX v).freeIndex = s.freeIndex := rfl
end

section
variable (v : Byte) (s : State)
@[simp] theorem State.setY_cpu : (s.setY v).cpu = { s.cpu with y := v } := rfl
@[simp] theorem State.setY_ram : (s.setY v).ram = s.ram := rfl
@[simp] theorem State.setY_controller0 : (s.setY v).controller0 = s.controller0 := rfl
@[simp] theorem State.setY_controller1 : (s.setY v).controller1 = s.controller1 := rfl
@[simp] theorem State.setY_latch0 : (s.setY v).latch0 = s.latch0 := rfl
@[simp] theorem State.setY_latch1 : (s.setY v).latch1 = s.latch1 := rfl
@[simp] theorem State.setY_clock : (s.setY v).clock = s.clock := rfl
@[simp] theorem State.setY_dma : (s.setY v).dma = s.dma := rfl
@[simp] theorem State.setY_ppu : (s.setY v).ppu = s.ppu := rfl
@[simp] theorem State.setY_cart : (s.setY v).cart = s.cart := rfl
@[simp] theorem State.setY_params : (s.setY v).params = s.params := rfl
@[simp] theorem State.setY_renderEnable : (s.setY v).renderEnable = s.renderEnable := rfl
@[simp] theorem State.setY_sink : (s.setY v).sink = s.sink := rfl
@[simp] theorem State.setY_freeIndex : (s.setY v).freeIndex = s.freeIndex := rfl
end

section
variable (v : Byte) (s : State)
@[simp] theorem State.setSp_cpu : (s.setSp v).cpu = { s.cpu with sp := v } := rfl
@[simp] theorem State.setSp_ram : (s.setSp v).ram = s.ram := rfl
@[simp] theorem State.setSp_controller0 : (s.setSp v).controller0 = s.controller0 := rfl
@[simp] theorem State.setSp_controller1 : (s.setSp v).controller1 = s.controller1 := rfl
@[simp] theorem State.setSp_latch0 : (s.setSp v).latch0 = s.latch0 := rfl
@[simp] theorem State.setSp_latch1 : (s.setSp v).latch1 = s.latch1 := rfl
@[simp] theorem State.setSp_clock : (s.setSp v).clock = s.clock := rfl
@[simp] theorem State.setSp_dma : (s.setSp v).dma = s.dma := rfl
@[simp] theorem State.setSp_ppu : (s.setSp v).ppu = s.ppu := rfl
@[simp] theorem State.setSp_cart : (s.setSp v).cart = s.cart := rfl
@[simp] theorem State.setSp_params : (s.setSp v).params = s.params := rfl
@[simp] theorem State.setSp_renderEnable : (s.setSp v).renderEnable = s.renderEnable := rfl
@[simp] theorem State.setSp_sink : (s.setSp v).sink = s.sink := rfl
@[simp] theorem State.setSp_freeIndex : (s.setSp v).freeIndex = s.freeIndex := rfl
end

section
variable (v : Word) (s : State)
@[simp] theorem State.setPc_cpu : (s.setPc v).cpu = { s.cpu with pc := v } := rfl
@[simp] theorem State.setPc_ram : (s.setPc v).ram = s.ram := rfl
@[simp] theorem State.setPc_controller0 : (s.setPc v).controller0 = s.controller0 := rfl
@[simp] theorem State.setPc_controller1 : (s.setPc v).controller1 = s.controller1 := rfl
@[simp] theorem State.setPc_latch0 : (s.setPc v).latch0 = s.latch0 := rfl
@[simp] theorem State.setPc_latch1 : (s.setPc v).latch1 = s.latch1 := rfl
@[simp] theorem State.setPc_clock : (s.setPc v).clock = s.clock := rfl
@[simp] theorem State.setPc_dma : (s.setPc v).dma = s.dma := rfl
@[simp] theorem State.setPc_ppu : (s.setPc v).ppu = s.ppu := rfl
@[simp] theorem State.setPc_cart : (s.setPc v).cart = s.cart := rfl
@[simp] theorem State.setPc_params : (s.setPc v).params = s.params := rfl
@[simp] theorem State.setPc_renderEnable : (s.setPc v).renderEnable = s.renderEnable := rfl
@[simp] theorem State.setPc_sink : (s.setPc v).sink = s.sink := rfl
@[simp] theorem State.setPc_freeIndex : (s.setPc v).freeIndex = s.freeIndex := rfl
end

section
variable (v : Byte) (s : State)
@[simp] theorem State.setP_cpu : (s.setP v).cpu = { s.cpu with p := v } := rfl
@[simp] theorem State.setP_ram : (s.setP v).ram = s.ram := rfl
@[simp] theorem State.setP_controller0 : (s.setP v).controller0 = s.controller0 := rfl
@[simp] theorem State.setP_controller1 : (s.setP v).controller1 = s.controller1 := rfl
@[simp] theorem State.setP_latch0 : (s.setP v).latch0 = s.latch0 := rfl
@[simp] theorem State.setP_latch1 : (s.setP v).latch1 = s.latch1 := rfl
@[simp] theorem State.setP_clock : (s.setP v).clock = s.clock := rfl
@[simp] theorem State.setP_dma : (s.setP v).dma = s.dma := rfl
@[simp] theorem State.setP_ppu : (s.setP v).ppu = s.ppu := rfl
@[simp] theorem State.setP_cart : (s.setP v).cart = s.cart := rfl
@[simp] theorem State.setP_params : (s.setP v).params = s.params := rfl
@[simp] theorem State.setP_renderEnable : (s.setP v).renderEnable = s.renderEnable := rfl
@[simp] theorem State.setP_sink : (s.setP v).sink = s.sink := rfl
@[simp] theorem State.setP_freeIndex : (s.setP v).freeIndex = s.freeIndex := rfl
end

section
variable (v : Byte) (s : State)
@[simp] theorem State.setOpcode_cpu : (s.setOpcode v).cpu = { s.cpu with opcode := v } := rfl
@[simp] theorem State.setOpcode_ram : (s.setOpcode v).ram = s.ram := rfl
@[simp] theorem State.setOpcode_controller0 : (s.setOpcode v).controller0 = s.controller0 := rfl
@[simp] theorem State.setOpcode_controller1 : (s.setOpcode v).controller1 = s.controller1 := rfl
@[simp] theorem State.setOpcode_latch0 : (s.setOpcode v).latch0 = s.latch0 := rfl
@[simp] theorem State.setOpcode_latch1 : (s.setOpcode v).latch1 = s.latch1 := rfl
@[simp] theorem State.setOpcode_clock : (s.setOpcode v).clock = s.clock := rfl
@[simp] theorem State.setOpcode_dma : (s.setOpcode v).dma = s.dma := rfl
@[simp] theorem State.setOpcode_ppu : (s.setOpcode v).ppu = s.ppu := rfl
@[simp] theorem State.setOpcode_cart : (s.setOpcode v).cart = s.cart := rfl
@[simp] theorem State.setOpcode_params : (s.setOpcode v).params = s.params := rfl
@[simp] theorem State.setOpcode_renderEnable : (s.setOpcode v).renderEnable = s.renderEnable := rfl
@[simp] theorem State.setOpcode_sink : (s.setOpcode v).sink = s.sink := rfl
@[simp] theorem State.setOpcode_freeIndex : (s.setOpcode v).freeIndex = s.freeIndex := rfl
end

section
variable (v : Word) (s : State)
@[simp] theorem State.setAddrAbs_cpu : (s.setAddrAbs v).cpu = { s.cpu with addrAbs := v } := rfl
@[simp] theorem State.setAddrAbs_ram : (s.setAddrAbs v).ram = s.ram := rfl
@[simp] theorem State.setAddrAbs_controller0 : (s.setAddrAbs v).controller0 = s.controller0 := rfl
@[simp] theorem State.setAddrAbs_controller1 : (s.setAddrAbs v).controller1 = s.controller1 := rfl
@[simp] theorem State.setAddrAbs_latch0 : (s.setAddrAbs v).latch0 = s.latch0 := rfl
@[simp] theorem State.setAddrAbs_latch1 : (s.setAddrAbs v).latch1 = s.latch1 := rfl
@[simp] theorem State.setAddrAbs_clock : (s.setAddrAbs v).clock = s.clock := rfl
@[simp] theorem State.setAddrAbs_dma : (s.setAddrAbs v).dma = s.dma := rfl
@[simp] theorem State.setAddrAbs_ppu : (s.setAddrAbs v).ppu = s.ppu := rfl
@[simp] theorem State.setAddrAbs_cart : (s.setAddrAbs v).cart = s.cart := rfl
@[simp] theorem State.setAddrAbs_params : (s.setAddrAbs v).params = s.params := rfl
@[simp] theorem State.setAddrAbs_renderEnable : (s.setAddrAbs v).renderEnable = s.renderEnable := rfl
@[simp] theorem State.setAddrAbs_sink : (s.setAddrAbs v).sink = s.sink := rfl
@[simp] theorem State.setAddrAbs_freeIndex : (s.setAddrAbs v).freeIndex = s.freeIndex := rfl
end

section
variable (v : Word) (s : State)
@[simp] theorem State.setAddrRel_cpu : (s.setAddrRel v).cpu = { s.cpu with addrRel := v } := rfl
@[simp] theorem State.setAddrRel_ram : (s.setAddrRel v).ram = s.ram := rfl
@[simp] theorem State.setAddrRel_controller0 : (s.setAddrRel v).controller0 = s.controller0 := rfl
@[simp] theorem State.setAddrRel_controller1 : (s.setAddrRel v).controller1 = s.controller1 := rfl
@[simp] theorem State.setAddrRel_latch0 : (s.setAddrRel v).latch0 = s.latch0 := rfl
@[simp] theorem State.setAddrRel_latch1 : (s.setAddrRel v).latch1 = s.latch1 := rfl
@[simp] theorem State.setAddrRel_clock : (s.setAddrRel v).clock = s.clock := rfl
@[simp] theorem State.setAddrRel_dma : (s.setAddrRel v).dma = s.dma := rfl
@[simp] theorem State.setAddrRel_ppu : (s.setAddrRel v).ppu = s.ppu := rfl
@[simp] theorem State.setAddrRel_cart : (s.setAddrRel v).cart = s.cart := rfl
@[simp] theorem State.setAddrRel_params : (s.setAddrRel v).params = s.params := rfl
@[simp] theorem State.setAddrRel_renderEnable : (s.setAddrRel v).renderEnable = s.renderEnable := rfl
@[simp] theorem State.setAddrRel_sink : (s.setAddrRel v).sink = s.sink := rfl
@[simp] theorem State.setAddrRel_freeIndex : (s.setAddrRel v).freeIndex = s.freeIndex := rfl
end

section
variable (v : Byte) (s : State)
@[simp] theorem State.setFetched_cpu : (s.setFetched v).cpu = { s.cpu with fetched := v } := rfl
@[simp] theorem State.setFetched_ram : (s.setFetched v).ram = s.ram := rfl
@[simp] theorem State.setFetched_controller0 : (s.setFetched v).controller0 = s.controller0 := rfl
@[simp] theorem State.setFetched_controller1 : (s.setFetched v).controller1 = s.controller1 := rfl
@[simp] theorem State.setFetched_latch0 : (s.setFetched v).latch0 = s.latch0 := rfl
@[simp] theorem State.setFetched_latch1 : (s.setFetched v).latch1 = s.latch1 := rfl
@[simp] theorem State.setFetched_clock : (s.setFetched v).clock = s.clock := rfl
@[simp] theorem State.setFetched_dma : (s.setFetched v).dma = s.dma := rfl
@[simp] theorem State.setFetched_ppu : (s.setFetched v).ppu = s.ppu := rfl
@[simp] theorem State.setFetched_cart : (s.setFetched v).cart = s.cart := rfl
@[simp] theorem State.setFetched_params : (s.setFetched v).params = s.params := rfl
@[simp] theorem State.setFetched_renderEnable : (s.setFetched v).renderEnable = s.renderEnable := rfl
@[simp] theorem State.setFetched_sink : (s.setFetched v).sink = s.sink := rfl
@[simp] theorem State.setFetched_freeIndex : (s.setFetched v).freeIndex = s.freeIndex := rfl
end

section
variable (v : Byte) (s : State)
@[simp] theorem State.setCycles_cpu : (s.setCycles v).cpu = { s.cpu with cycles := v } := rfl
@[simp] theorem State.setCycles_ram : (s.setCycles v).ram = s.ram := rfl
@[simp] theorem State.setCycles_controller0 : (s.setCycles v).controller0 = s.controller0 := rfl
@[simp] theorem State.setCycles_controller1 : (s.setCycles v).controller1 = s.controller1 := rfl
@[simp] theorem State.setCycles_latch0 : (s.setCycles v).latch0 = s.latch0 := rfl
@[simp] theorem State.setCycles_latch1 : (s.setCycles v).latch1 = s.latch1 := rfl
@[simp] theorem State.setCycles_clock : (s.setCycles v).clock = s.clock := rfl
@[simp] theorem State.setCycles_dma : (s.setCycles v).dma = s.dma := rfl
@[simp] theorem State.setCycles_ppu : (s.setCycles v).ppu = s.ppu := rfl
@[simp] theorem State.setCycles_cart : (s.setCycles v).cart = s.cart := rfl
@[simp] theorem State.setCycles_params : (s.setCycles v).params = s.params := rfl
@[simp] theorem State.setCycles_renderEnable : (s.setCycles v).renderEnable = s.renderEnable := rfl
@[simp] theorem State.setCycles_sink : (s.setCycles v).sink = s.sink := rfl
@[simp] theorem State.setCycles_freeIndex : (s.setCycles v).freeIndex = s.freeIndex := rfl
end

section
variable (f : Flag) (v : Bool) (s : State)
@[simp] theorem State.setFlag_cpu : (s.setFlag f v).cpu = { s.cpu with p := putFlag f v s.cpu.p } := rfl
@[simp] theorem State.setFlag_ram : (s.setFlag f v).ram = s.ram := rfl
@[simp] theorem State.setFlag_controller0 : (s.setFlag f v).controller0 = s.controller0 := rfl
@[simp] theorem State.setFlag_controller1 : (s.setFlag f v).controller1 = s.controller1 := rfl
@[simp] theorem State.setFlag_latch0 : (s.setFlag f v).latch0 = s.latch0 := rfl
@[simp] theorem State.setFlag_latch1 : (s.setFlag f v).latch1 = s.latch1 := rfl
@[simp] theorem State.setFlag_clock : (s.setFlag f v).clock = s.clock := rfl
@[simp] theorem State.setFlag_dma : (s.setFlag f v).dma = s.dma := rfl
@[simp] theorem State.setFlag_ppu : (s.setFlag f v).ppu = s.ppu := rfl
@[simp] theorem State.setFlag_cart : (s.setFlag f v).cart = s.cart := rfl
@[simp] theorem State.setFlag_params : (s.setFlag f v).params = s.params := rfl
@[simp] theorem State.setFlag_renderEnable : (s.setFlag f v).renderEnable = s.renderEnable := rfl
@[simp] theorem State.setFlag_sink : (s.setFlag f v).sink = s.sink := rfl
@[simp] theorem State.setFlag_freeIndex : (s.setFlag f v).freeIndex = s.freeIndex := rfl
end

end Sys2Proof.Machine
end

