-- ==== Sys2Proof/Laws/Bus.lean ====
section
/-! SUPPORT. Everything a bus access can do: what a read leaves, that no access looks at the CPU, and what the stack
operations are in work RAM. -/
namespace Sys2Proof.Machine

-- Composition of the frame of reads

theorem AfterReads.refl (s : State) : AfterReads s s := rfl

theorem AfterReads.trans {s t u : State} (h : AfterReads s t) (k : AfterReads t u) : AfterReads s u := by
  unfold AfterReads at *
  rw [h] at k
  exact k

/-- A change of the CPU alone is within the frame of reads. -/
theorem AfterReads.of_cpu (s : State) (c : Cpu) : AfterReads s (s.setCpu c) := rfl

/-- Reads change no byte of memory. -/
theorem AfterReads.memoryKept {s t : State} (h : AfterReads s t) : MemoryKept s t := by
  intro l
  unfold AfterReads at h
  rw [h]
  cases l <;> rfl

-- The cartridge

/-- A cartridge read changes at most the count of free values. -/
theorem cartCpuRead_state (a : Word) (s : State) :
    (cartCpuRead a s).2 = { s with freeIndex := (cartCpuRead a s).2.freeIndex } := by
  unfold cartCpuRead
  split
  · rfl
  · rfl
  · split <;> rfl

theorem cartCpuRead_setCpu (a : Word) (c : Cpu) (s : State) :
    cartCpuRead a (s.setCpu c) = ((cartCpuRead a s).1, (cartCpuRead a s).2.setCpu c) := by
  unfold cartCpuRead
  simp only [State.setCpu_cart]
  cases cpuMapRead s.cart a with
  | unclaimed => rfl
  | produced d => rfl
  | offset o =>
    by_cases h : o < s.cart.prgSize
    · simp only [h, if_true]
    · simp only [h, if_false]
      rfl

theorem cpuMapRead_unclaimed (c : Cartridge) {a : Word} (h : a.toNat < 0x6000) : cpuMapRead c a = .unclaimed := by
  simp [cpuMapRead, show ¬(0x8000 ≤ a.toNat) by omega, show ¬(0x6000 ≤ a.toNat) by omega]

theorem cpuMapWrite_unclaimed (c : Cartridge) (v : Byte) {a : Word} (h : a.toNat < 0x6000) :
    cpuMapWrite c a v = (.unclaimed, c.mapper) := by
  simp [cpuMapWrite, show ¬(0x8000 ≤ a.toNat) by omega, show ¬(0x6000 ≤ a.toNat) by omega]

/-- Below 0x6000 the cartridge claims nothing, so a read goes to the fixed map. -/
theorem memRead_fixed {a : Word} (h : a.toNat < 0x6000) (s : State) : memRead a s = fixedRead a s := by
  simp [memRead, cartCpuRead, cpuMapRead_unclaimed _ h]

/-- Below 0x6000 a write goes to the fixed map. -/
theorem memWrite_fixed {a : Word} (h : a.toNat < 0x6000) (v : Byte) (s : State) :
    memWrite a v s = fixedWrite a v s := by
  have hs : s.setMapper s.cart.mapper = s := rfl
  simp [memWrite, cartCpuWrite, cpuMapWrite_unclaimed _ _ h, hs]

/-- A read of work RAM. -/
theorem memRead_ram {a : Word} (h : a.toNat < 0x2000) (s : State) : memRead a s = (s.ram.read (a.toNat % 0x800), s) := by
  rw [memRead_fixed (by omega)]
  simp [fixedRead, h]

/-- A write of work RAM. -/
theorem memWrite_ram {a : Word} (h : a.toNat < 0x2000) (v : Byte) (s : State) :
    memWrite a v s = s.setRam (s.ram.write (a.toNat % 0x800) v) := by
  rw [memWrite_fixed (by omega)]
  simp [fixedWrite, h]

-- The PPU bus

/-- A PPU-side read changes at most the count of free values. -/
theorem ppuRead_state (a : Word) (s : State) : (ppuRead a s).2 = { s with freeIndex := (ppuRead a s).2.freeIndex } := by
  have h : ∀ k : Nat, (cartPpuRead k s).2 = { s with freeIndex := (cartPpuRead k s).2.freeIndex } := by
    intro k
    unfold cartPpuRead
    split
    · rfl
    · split <;> rfl
  unfold ppuRead
  simp only
  split
  · rename_i d s' hd
    have := h (a.toNat % 0x4000)
    rw [hd] at this
    exact this
  · rename_i s' hd
    have := h (a.toNat % 0x4000)
    rw [hd] at this
    split
    · exact this
    · split <;> exact this

theorem ppuRead_setCpu (a : Word) (c : Cpu) (s : State) :
    ppuRead a (s.setCpu c) = ((ppuRead a s).1, (ppuRead a s).2.setCpu c) := by
  have h : ∀ k : Nat, cartPpuRead k (s.setCpu c) = ((cartPpuRead k s).1, (cartPpuRead k s).2.setCpu c) := by
    intro k
    unfold cartPpuRead
    simp only [State.setCpu_cart]
    cases ppuMapRead s.cart k with
    | none => rfl
    | some o =>
      by_cases h : o < s.cart.chrSize
      · simp only [h, if_true]
      · simp only [h, if_false]
        rfl
  unfold ppuRead
  simp only [h]
  generalize cartPpuRead (a.toNat % 0x4000) s = r
  obtain ⟨d, s'⟩ := r
  cases d with
  | some d => rfl
  | none =>
    simp only [State.setCpu_ppu, State.setCpu_cart]
    split
    · rfl
    · split <;> rfl

/-- A PPU-side write never looks at the CPU. -/
theorem ppuWrite_setCpu (a : Word) (v : Byte) (c : Cpu) (s : State) :
    ppuWrite a v (s.setCpu c) = (ppuWrite a v s).setCpu c := by
  unfold ppuWrite cartPpuWrite
  simp only [State.setCpu_cart, State.setCpu_ppu]
  cases ppuMapWrite s.cart (a.toNat % 0x4000) with
  | some o => rfl
  | none =>
    simp only
    split
    · rfl
    · split <;> rfl

/-- A port read is within the frame of reads and never looks at the CPU. -/
theorem ppuPortRead_afterReads (p : BitVec 3) (s : State) :
    AfterReads s (ppuPortRead p s).2 ∧ (ppuPortRead p s).2.cpu = s.cpu := by
  unfold ppuPortRead
  split
  · exact ⟨rfl, rfl⟩
  · exact ⟨rfl, rfl⟩
  · simp only [readPort7]
    have h := ppuRead_state (s.ppu.v.setWidth 16) s
    rw [h]
    exact ⟨rfl, rfl⟩
  · exact ⟨rfl, rfl⟩

theorem ppuPortRead_setCpu (p : BitVec 3) (c : Cpu) (s : State) :
    ppuPortRead p (s.setCpu c) = ((ppuPortRead p s).1, (ppuPortRead p s).2.setCpu c) := by
  unfold ppuPortRead
  split
  · rfl
  · rfl
  · simp only [readPort7, State.setCpu_ppu, ppuRead_setCpu]
    rfl
  · rfl

theorem ppuPortWrite_setCpu (p : BitVec 3) (d : Byte) (c : Cpu) (s : State) :
    ppuPortWrite p d (s.setCpu c) = (ppuPortWrite p d s).setCpu c := by
  unfold ppuPortWrite
  split <;> try rfl
  simp only [writePort7, State.setCpu_ppu, ppuWrite_setCpu]
  rfl

-- The CPU bus

/-- A bus read is within the frame of reads, and leaves the CPU alone. -/
theorem memRead_afterReads (a : Word) (s : State) :
    AfterReads s (memRead a s).2 ∧ (memRead a s).2.cpu = s.cpu := by
  unfold memRead
  have hc := cartCpuRead_state a s
  split
  · rename_i d s' hd
    rw [hd] at hc
    simp only at hc
    simp only
    rw [hc]
    exact ⟨rfl, rfl⟩
  · rename_i s' hd
    rw [hd] at hc
    simp only at hc
    have hf : ∀ t : State, AfterReads t (fixedRead a t).2 ∧ (fixedRead a t).2.cpu = t.cpu := by
      intro t
      unfold fixedRead
      split
      · exact ⟨rfl, rfl⟩
      · split
        · exact ppuPortRead_afterReads _ _
        · split
          · exact ⟨rfl, rfl⟩
          · split <;> exact ⟨rfl, rfl⟩
    have h1 := hf s'
    refine ⟨AfterReads.trans ?_ h1.1, h1.2.trans (by rw [hc])⟩
    rw [hc]
    rfl

/-- A bus read never looks at the CPU. -/
theorem memRead_setCpu (a : Word) (c : Cpu) (s : State) :
    memRead a (s.setCpu c) = ((memRead a s).1, (memRead a s).2.setCpu c) := by
  unfold memRead
  rw [cartCpuRead_setCpu]
  generalize cartCpuRead a s = r
  obtain ⟨d, s'⟩ := r
  cases d with
  | some d => rfl
  | none =>
    simp only
    unfold fixedRead
    simp only [State.setCpu_ram, ppuPortRead_setCpu]
    split
    · rfl
    · split
      · rfl
      · split
        · rfl
        · split <;> rfl

/-- A bus write never looks at the CPU. -/
theorem memWrite_setCpu (a : Word) (v : Byte) (c : Cpu) (s : State) :
    memWrite a v (s.setCpu c) = (memWrite a v s).setCpu c := by
  have hw : cartCpuWrite a v (s.setCpu c) = ((cartCpuWrite a v s).1, (cartCpuWrite a v s).2.setCpu c) := rfl
  unfold memWrite
  rw [hw]
  generalize cartCpuWrite a v s = r
  obtain ⟨d, s'⟩ := r
  cases d with
  | claimed => rfl
  | unclaimed =>
    simp only
    unfold fixedWrite
    simp only [State.setCpu_ram, ppuPortWrite_setCpu]
    split
    · rfl
    · split
      · rfl
      · split
        · rfl
        · split
          · rfl
          · split <;> rfl

/-- A bus write leaves the CPU alone. -/
theorem memWrite_cpu (a : Word) (v : Byte) (s : State) : (memWrite a v s).cpu = s.cpu := by
  have h := memWrite_setCpu a v s.cpu s
  have hs : s.setCpu s.cpu = s := rfl
  rw [hs] at h
  rw [h]
  rfl

/-- A two-byte read is within the frame of reads, and leaves the CPU alone. -/
theorem memRead16_afterReads (a : Word) (s : State) :
    AfterReads s (memRead16 a s).2 ∧ (memRead16 a s).2.cpu = s.cpu := by
  have h1 := memRead_afterReads a s
  have h2 := memRead_afterReads (a + 1) (memRead a s).2
  exact ⟨h1.1.trans h2.1, h2.2.trans h1.2⟩

-- The stack

theorem stackAddr_toNat (sp : Byte) : (stackAddr sp).toNat = 0x100 + sp.toNat := by
  have h : sp.toNat < 256 := sp.isLt
  simp only [stackAddr, pair, BitVec.toNat_append]
  rw [← Nat.shiftLeft_add_eq_or_of_lt h]
  rfl

/-- A push is a write of work RAM and a step of SP. -/
theorem push_eq (v : Byte) (s : State) :
    push v s = (s.setRam (s.ram.write (0x100 + s.cpu.sp.toNat) v)).setSp (s.cpu.sp - 1) := by
  have h : s.cpu.sp.toNat < 256 := s.cpu.sp.isLt
  unfold push
  rw [memWrite_ram (by rw [stackAddr_toNat]; omega), stackAddr_toNat, Nat.mod_eq_of_lt (by omega)]

/-- A pull is a read of work RAM and a step of SP. -/
theorem pull_eq (s : State) :
    pull s = (s.ram.read (0x100 + (s.cpu.sp + 1).toNat), s.setSp (s.cpu.sp + 1)) := by
  have h : (s.cpu.sp + 1).toNat < 256 := (s.cpu.sp + 1).isLt
  unfold pull
  rw [memRead_ram (by rw [stackAddr_toNat]; omega), stackAddr_toNat, Nat.mod_eq_of_lt (by omega)]
  rfl

end Sys2Proof.Machine
end

