-- ==== Sys2Proof/Laws/Flags.lean ====
section
/-! SUPPORT. What writing one flag does to every flag, and what the shared flag computations leave. -/
namespace Sys2Proof.Machine

theorem Flag.bit_inj {f g : Flag} (h : f.bit = g.bit) : f = g := by
  cases f <;> cases g <;> first | rfl | (exact absurd h (by decide))

theorem Flag.bit_lt (f : Flag) : f.bit < 8 := by cases f <;> decide

/-- A bit of a byte with one bit written. -/
theorem getLsbD_setBit (n m : Nat) (hn : n < 8) (v : Bool) (b : Byte) :
    (setBit n v b).getLsbD m = if m = n then v else b.getLsbD m := by
  unfold setBit
  by_cases hm : m < 8
  · have h1 : ∀ j : Nat, j < 8 → (1#8 <<< n).getLsbD j = decide (j = n) := by
      intro j hj
      interval_cases n <;> interval_cases j <;> rfl
    split <;> rename_i hv
    · simp only [BitVec.getLsbD_or, h1 m hm]
      by_cases hmn : m = n <;> simp [hmn, hv]
    · simp only [BitVec.getLsbD_and, BitVec.getLsbD_not, h1 m hm, hm, decide_true, Bool.true_and]
      by_cases hmn : m = n <;> simp [hmn, hv]
  · have : m ≠ n := by omega
    rw [if_neg this]
    split <;> simp [BitVec.getLsbD_of_ge, show 8 ≤ m by omega]

@[simp] theorem getFlag_putFlag_same (f : Flag) (v : Bool) (p : Byte) : getFlag f (putFlag f v p) = v := by
  simp [getFlag, putFlag, getLsbD_setBit _ _ f.bit_lt]

theorem getFlag_putFlag_other {f g : Flag} (v : Bool) (p : Byte) (h : g ≠ f) :
    getFlag g (putFlag f v p) = getFlag g p := by
  simp only [getFlag, putFlag, getLsbD_setBit _ _ f.bit_lt]
  rw [if_neg (fun e => h (Flag.bit_inj e))]

/-- A flag of a state with one flag written. -/
theorem State.flag_setFlag (f g : Flag) (v : Bool) (s : State) :
    (s.setFlag f v).flag g = if g = f then v else s.flag g := by
  by_cases h : g = f
  · subst h; simp [State.flag]
  · simp [State.flag, getFlag_putFlag_other _ _ h, h]

/-- A flag depends on P alone. -/
theorem State.flag_congr {s t : State} (h : t.cpu.p = s.cpu.p) (f : Flag) : t.flag f = s.flag f := by
  simp [State.flag, h]

/-- Two status bytes with the same flags are equal. -/
theorem status_ext {p q : Byte} (h : ∀ f : Flag, getFlag f p = getFlag f q) : p = q := by
  apply BitVec.eq_of_getLsbD_eq
  intro i hi
  have hc := h .c; have hz := h .z; have hi' := h .i; have hd := h .d
  have hb := h .b; have hu := h .u; have hv := h .v; have hn := h .n
  simp only [getFlag, Flag.bit] at hc hz hi' hd hb hu hv hn
  interval_cases i <;> assumption

/-- Z and N after `setZN`, and that it writes no other flag. -/
theorem flag_setZN (v : Byte) (s : State) (g : Flag) :
    (setZN v s).flag g = if g = .n then v.getLsbD 7 else if g = .z then decide (v = 0x00) else s.flag g := by
  simp [setZN, State.flag_setFlag]

/-- `setZN` writes P alone. -/
theorem setZN_eq (v : Byte) (s : State) : setZN v s = s.setP (setZN v s).cpu.p := rfl

/-- The four flags of an addition. -/
theorem flag_addWithCarry (m : Byte) (s : State) (g : Flag) :
    (addWithCarry m s).flag g =
      if g = .n then (lo8 (sum16 s.cpu.a m (s.flag .c))).getLsbD 7
      else if g = .z then decide (lo8 (sum16 s.cpu.a m (s.flag .c)) = 0x00)
      else if g = .v then overflow s.cpu.a m (lo8 (sum16 s.cpu.a m (s.flag .c)))
      else if g = .c then (sum16 s.cpu.a m (s.flag .c)).getLsbD 8 else s.flag g := by
  have : ∀ (b : Byte) (t : State), (t.setA b).flag g = t.flag g := fun b t => State.flag_congr rfl g
  simp only [addWithCarry, this, flag_setZN, State.flag_setFlag]

/-- The three flags of a compare. -/
theorem flag_compareFlags (r m : Byte) (s : State) (g : Flag) :
    (compareFlags r m s).flag g =
      if g = .n then (r - m).getLsbD 7 else if g = .z then decide (r = m)
      else if g = .c then decide (m.toNat ≤ r.toNat) else s.flag g := by
  simp only [compareFlags, State.flag_setFlag]

/-- The three flags of BIT. -/
theorem flag_bitTestFlags (m : Byte) (s : State) (g : Flag) :
    (bitTestFlags m s).flag g =
      if g = .v then m.getLsbD 6 else if g = .n then m.getLsbD 7
      else if g = .z then decide (s.cpu.a &&& m = 0x00) else s.flag g := by
  simp only [bitTestFlags, State.flag_setFlag]

end Sys2Proof.Machine
end

