-- ==== Sys2Proof/Laws/Exec.lean ====
section
/-! SUPPORT. What the mode functions, the operand fetch and the shared ends of the meanings do, said once. -/
namespace Sys2Proof.Machine

theorem TransientsOnly.of_cpu {s t : State} (h : t.cpu = s.cpu) : TransientsOnly s t := by
  unfold TransientsOnly
  rw [h]

theorem TransientsOnly.trans {s t u : State} (h : TransientsOnly s t) (k : TransientsOnly t u) :
    TransientsOnly s u := by
  unfold TransientsOnly at *
  rw [k, h]

theorem TransientsOnly.registers {s t : State} (h : TransientsOnly s t) : RegistersAre t s.cpu := by
  unfold TransientsOnly at h
  rw [RegistersAre, h]
  exact ⟨rfl, rfl, rfl, rfl, rfl, rfl⟩

theorem TransientsOnly.flag {s t : State} (h : TransientsOnly s t) (f : Flag) : t.flag f = s.flag f := by
  unfold TransientsOnly at h
  rw [State.flag, h]
  rfl

theorem TransientsOnly.cycles {s t : State} (h : TransientsOnly s t) : t.cpu.cycles = s.cpu.cycles := by
  unfold TransientsOnly at h
  rw [h]

/-- Two reads in a row are within the frame of reads and leave the CPU alone. -/
theorem two_reads (a b : Word) (s : State) :
    AfterReads s (memRead b (memRead a s).2).2 ∧ (memRead b (memRead a s).2).2.cpu = s.cpu :=
  ⟨(memRead_afterReads a s).1.trans (memRead_afterReads b _).1,
   (memRead_afterReads b _).2.trans (memRead_afterReads a s).2⟩

theorem indirectPointer_frame (w : Word) (s : State) :
    AfterReads s (indirectPointer w s).2 ∧ (indirectPointer w s).2.cpu = s.cpu := two_reads _ _ s

theorem zeroPagePointer_frame (b : Byte) (s : State) :
    AfterReads s (zeroPagePointer b s).2 ∧ (zeroPagePointer b s).2.cpu = s.cpu := two_reads _ _ s

/-- A mode function is within the frame of reads and writes only transients of the CPU. -/
theorem applyMode_frame (o : Operand) (s : State) :
    AfterReads s (applyMode o s).state ∧ TransientsOnly s (applyMode o s).state := by
  cases o with
  | ind w =>
    have h := indirectPointer_frame w s
    exact ⟨h.1.trans (AfterReads.of_cpu _ _), (TransientsOnly.of_cpu h.2).trans rfl⟩
  | izx b =>
    have h := zeroPagePointer_frame (b + s.cpu.x) s
    exact ⟨h.1.trans (AfterReads.of_cpu _ _), (TransientsOnly.of_cpu h.2).trans rfl⟩
  | izy b =>
    have h := zeroPagePointer_frame b s
    exact ⟨h.1.trans (AfterReads.of_cpu _ _), (TransientsOnly.of_cpu h.2).trans rfl⟩
  | _ => exact ⟨rfl, rfl⟩

/-- The operand fetch is within the frame of reads and writes only transients of the CPU. -/
theorem fetchOperand_frame (o : Operand) (s : State) :
    AfterReads s (fetchOperand o s).2 ∧ TransientsOnly s (fetchOperand o s).2 := by
  cases o with
  | imp => exact ⟨rfl, rfl⟩
  | imm b => exact ⟨rfl, rfl⟩
  | _ =>
    have h := memRead_afterReads s.cpu.addrAbs s
    exact ⟨h.1.trans (AfterReads.of_cpu _ _), (TransientsOnly.of_cpu h.2).trans rfl⟩

/-- Reading an operand is within the frame of reads and writes only transients of the CPU. -/
theorem readOperand_frame (o : Operand) (s : State) :
    AfterReads s (readOperand o s).state ∧ TransientsOnly s (readOperand o s).state :=
  ⟨(applyMode_frame o s).1.trans (fetchOperand_frame o _).1,
   (applyMode_frame o s).2.trans (fetchOperand_frame o _).2⟩

/-- A fetched operand byte is within the frame of reads, and of the CPU it moves PC alone. -/
theorem fetchByte_frame (s : State) :
    AfterReads s (fetchByte s).2 ∧ (fetchByte s).2.cpu = { s.cpu with pc := s.cpu.pc + 1 } := by
  have h := memRead_afterReads s.cpu.pc s
  refine ⟨h.1.trans (AfterReads.of_cpu _ _), ?_⟩
  simp only [fetchByte, State.setPc_cpu, h.2]

/-- The opcode fetch is within the frame of reads. -/
theorem fetchOpcode_frame (s : State) : AfterReads s (fetchOpcode s).2 :=
  (memRead_afterReads s.cpu.pc s).1.trans (AfterReads.of_cpu _ _)

/-- Passing an operand byte changes PC alone. -/
theorem passByte_eq (s : State) : (passByte s).2 = s.setPc (s.cpu.pc + 1) := rfl

/-- The whole fetch is within the frame of reads. -/
theorem fetch_frame (s : State) : AfterReads s (fetch s).state := by
  have h := fetchOpcode_frame s
  unfold fetch
  dsimp only
  split
  · exact h
  · split
    · exact h.trans (AfterReads.of_cpu _ _)
    · exact h.trans (fetchByte_frame _).1
  · exact (h.trans (fetchByte_frame _).1).trans (fetchByte_frame _).1

/-- The end of an operation answers the next state with the counter set. -/
theorem complete_eq (op : Op) (o : Operand) (m e : Bool) (b : Nat) (s : State) :
    complete op o m e b s = .next (s.setCycles (BitVec.ofNat 8 (baseCycles op o.mode + (m && e).toNat + b))) := rfl

theorem branch_next (op : Op) (o : Operand) (m c : Bool) (s : State) : ∃ t : State, branch op o m c s = .next t := by
  unfold branch
  split <;> exact ⟨_, rfl⟩

/-- Every instruction answers a next state, from every state and with every operand. -/
theorem exec_next (i : Instr) (s : State) : ∃ t : State, exec i s = .next t := by
  cases i <;> first | exact ⟨_, rfl⟩ | exact branch_next _ _ _ _ _

end Sys2Proof.Machine
end

