-- ==== Sys2Proof/Laws/PerInstr.lean ====
section
/-! SUPPORT. The statements made per instruction, with one lemma for each constructor of `Instr`. -/
namespace Sys2Proof.Laws.EncodedLength
open Sys2Proof

/-- A well-formed instruction has an encoding of the length of its operand's mode, and its first byte has the table
entry of its operation and mode, whatever the parameters (`30_encoding.md` R201, R203). -/
def Statement (i : Instr) : Prop :=
  ∀ p : Params, i.wellFormed p = true → ∃ (b : Byte) (rest : List Byte), encode i = some (b :: rest) ∧
    rest.length + 1 = i.operand.mode.length ∧ (p.entry b).op = i.op ∧ (p.entry b).mode = i.operand.mode

/-- The opcode lists of R206 agree with the matrix of R209. -/
theorem opcodes_agree (op : Op) :
    (op.opcodes.all fun e => decide ((tableEntry e.2).op = op ∧ (tableEntry e.2).mode = e.1)) = true := by
  cases op <;> decide

theorem lookup_mem {l : List (Mode × Byte)} {m : Mode} {b : Byte} (h : l.lookup m = some b) : (m, b) ∈ l := by
  induction l with
  | nil => simp at h
  | cons e l ih =>
    obtain ⟨k, v⟩ := e
    by_cases hk : m = k
    · subst hk
      simp at h
      simp [h]
    · have hb : (m == k) = false := by simpa using hk
      simp only [List.lookup, hb] at h
      exact List.mem_cons_of_mem _ (ih h)

theorem operand_bytes_length (o : Operand) : o.bytes.length + 1 = o.mode.length := by
  cases o <;> rfl

/-- Only an entry of the catch-all depends on the parameters. -/
theorem entry_documented {p : Params} {b : Byte} (h : (tableEntry b).op ≠ .xxx) : p.entry b = tableEntry b :=
  if_neg h

/-- No parameter changes the operation of an entry. -/
theorem entry_op (p : Params) (b : Byte) : (p.entry b).op = (tableEntry b).op := by
  simp only [Params.entry]
  split <;> simp [*]

/-- The statement of a documented operation, from its opcode lookup. -/
theorem documented (i : Instr) (hc : i.opcode = i.op.opcode i.operand.mode)
    (hw : ∀ p : Params, i.wellFormed p = true → (i.op.opcode i.operand.mode).isSome = true) : Statement i := by
  intro p h
  obtain ⟨b, hb⟩ := Option.isSome_iff_exists.mp (hw p h)
  have hm := lookup_mem hb
  have hall := opcodes_agree i.op
  rw [List.all_eq_true] at hall
  have he := of_decide_eq_true (hall _ hm)
  have hx : i.op ≠ .xxx := fun hx => by rw [hx] at hm; exact absurd hm List.not_mem_nil
  refine ⟨b, i.operand.bytes, by simp [encode, hc, hb], operand_bytes_length _, ?_⟩
  rw [entry_documented (he.1 ▸ hx)]
  exact he

theorem lda (o : Operand) : Statement (.lda o) := documented _ rfl fun _ => id
theorem ldx (o : Operand) : Statement (.ldx o) := documented _ rfl fun _ => id
theorem ldy (o : Operand) : Statement (.ldy o) := documented _ rfl fun _ => id
theorem sta (o : Operand) : Statement (.sta o) := documented _ rfl fun _ => id
theorem stx (o : Operand) : Statement (.stx o) := documented _ rfl fun _ => id
theorem sty (o : Operand) : Statement (.sty o) := documented _ rfl fun _ => id
theorem tax : Statement .tax := documented _ rfl fun _ => id
theorem tay : Statement .tay := documented _ rfl fun _ => id
theorem txa : Statement .txa := documented _ rfl fun _ => id
theorem tya : Statement .tya := documented _ rfl fun _ => id
theorem tsx : Statement .tsx := documented _ rfl fun _ => id
theorem txs : Statement .txs := documented _ rfl fun _ => id
theorem adc (o : Operand) : Statement (.adc o) := documented _ rfl fun _ => id
theorem sbc (o : Operand) : Statement (.sbc o) := documented _ rfl fun _ => id
theorem and (o : Operand) : Statement (.and o) := documented _ rfl fun _ => id
theorem ora (o : Operand) : Statement (.ora o) := documented _ rfl fun _ => id
theorem eor (o : Operand) : Statement (.eor o) := documented _ rfl fun _ => id
theorem bit (o : Operand) : Statement (.bit o) := documented _ rfl fun _ => id
theorem cmp (o : Operand) : Statement (.cmp o) := documented _ rfl fun _ => id
theorem cpx (o : Operand) : Statement (.cpx o) := documented _ rfl fun _ => id
theorem cpy (o : Operand) : Statement (.cpy o) := documented _ rfl fun _ => id
theorem inc (o : Operand) : Statement (.inc o) := documented _ rfl fun _ => id
theorem dec (o : Operand) : Statement (.dec o) := documented _ rfl fun _ => id
theorem inx : Statement .inx := documented _ rfl fun _ => id
theorem iny : Statement .iny := documented _ rfl fun _ => id
theorem dex : Statement .dex := documented _ rfl fun _ => id
theorem dey : Statement .dey := documented _ rfl fun _ => id
theorem asl (o : Operand) : Statement (.asl o) := documented _ rfl fun _ => id
theorem lsr (o : Operand) : Statement (.lsr o) := documented _ rfl fun _ => id
theorem rol (o : Operand) : Statement (.rol o) := documented _ rfl fun _ => id
theorem ror (o : Operand) : Statement (.ror o) := documented _ rfl fun _ => id
theorem jmp (o : Operand) : Statement (.jmp o) := documented _ rfl fun _ => id
theorem jsr (o : Operand) : Statement (.jsr o) := documented _ rfl fun _ => id
theorem rts : Statement .rts := documented _ rfl fun _ => id
theorem bcc (o : Operand) : Statement (.bcc o) := documented _ rfl fun _ => id
theorem bcs (o : Operand) : Statement (.bcs o) := documented _ rfl fun _ => id
theorem beq (o : Operand) : Statement (.beq o) := documented _ rfl fun _ => id
theorem bne (o : Operand) : Statement (.bne o) := documented _ rfl fun _ => id
theorem bmi (o : Operand) : Statement (.bmi o) := documented _ rfl fun _ => id
theorem bpl (o : Operand) : Statement (.bpl o) := documented _ rfl fun _ => id
theorem bvc (o : Operand) : Statement (.bvc o) := documented _ rfl fun _ => id
theorem bvs (o : Operand) : Statement (.bvs o) := documented _ rfl fun _ => id
theorem pha : Statement .pha := documented _ rfl fun _ => id
theorem pla : Statement .pla := documented _ rfl fun _ => id
theorem php : Statement .php := documented _ rfl fun _ => id
theorem plp : Statement .plp := documented _ rfl fun _ => id
theorem clc : Statement .clc := documented _ rfl fun _ => id
theorem sec : Statement .sec := documented _ rfl fun _ => id
theorem cli : Statement .cli := documented _ rfl fun _ => id
theorem sei : Statement .sei := documented _ rfl fun _ => id
theorem cld : Statement .cld := documented _ rfl fun _ => id
theorem sed : Statement .sed := documented _ rfl fun _ => id
theorem clv : Statement .clv := documented _ rfl fun _ => id
theorem brk : Statement .brk := documented _ rfl fun _ => id
theorem rti : Statement .rti := documented _ rfl fun _ => id
theorem nop : Statement .nop := documented _ rfl fun _ => id

theorem xxx (opcode : Byte) (o : Operand) : Statement (.xxx opcode o) := by
  intro p h
  simp only [Instr.wellFormed, Bool.and_eq_true, undocumented, undefModeAgrees, decide_eq_true_eq] at h
  exact ⟨opcode, o.bytes, rfl, operand_bytes_length o, (entry_op p opcode).trans h.1, h.2⟩

end Sys2Proof.Laws.EncodedLength
end

