-- ==== Sys2Proof/Tests/Slice0.lean ====
section
/-! SUPPORT. Tests. Expected values are the spec's: the examples and corner cases of its rules and the vectors of
`95_test_vectors.md`. The theorems named witness_… show a state and operands that meet the hypotheses of the
statement they name. -/
set_option Elab.async false

namespace Sys2Proof.Tests
open Sys2Proof Sys2Proof.Machine

-- Helpers

/-- The reset state with PC in work RAM, away from the zero page and the stack. -/
def base : State := State.reset.setPc 0x0300

/-- A byte of work RAM set. -/
def withRam (a : Nat) (v : Byte) (s : State) : State := s.setRam (s.ram.write a v)

/-- A PRG byte of the one bank set, by its CPU address. -/
def withPrg (a : Nat) (v : Byte) (s : State) : State :=
  s.setCart { s.cart with prg := s.cart.prg.write (a % 0x4000) v }

/-- The word `w` of `nbits` bits is stored where the next step fetches, and of the state that step answers `p`
holds. -/
def after (s : State) (nbits w : Nat) (p : State → Bool) : Bool :=
  match step (s.withFetchWord nbits w) with
  | .next t => p t
  | _ => false

-- WellFormed: an ill-formed term for each check

theorem test_wellFormed_refuses_a_mode_without_opcode : (Instr.sta (.imm 0x10)).wellFormed standardParams = false := by decide +kernel
theorem test_wellFormed_refuses_a_documented_opcode_as_xxx : (Instr.xxx 0xA9 (.imm 0x10)).wellFormed standardParams = false := by decide +kernel
theorem test_wellFormed_refuses_xxx_in_another_mode : (Instr.xxx 0x04 (.zp0 0x10)).wellFormed standardParams = false := by decide +kernel
theorem test_wellFormed_accepts : (Instr.ldx (.zpy 0x10)).wellFormed standardParams = true ∧ (Instr.xxx 0x04 .imp).wellFormed standardParams = true := by
  decide +kernel

/-- Parameters that give the undocumented opcode 0x04 the mode ZP0 and 5 cycles (00_scope.md R12, decision D4). -/
def otherParams : Params := { standardParams with undefMode := [(0x04, .zp0)], undefCycles := [(0x04, 5)] }

theorem test_wellFormed_follows_the_parameters :
    (Instr.xxx 0x04 (.zp0 0x10)).wellFormed otherParams = true ∧ (Instr.xxx 0x04 .imp).wellFormed otherParams = false := by
  decide +kernel

-- Decoding: a word of every constructor, from the tables of 30_encoding.md R206 and R208

theorem test_decode_load_store_transfer :
    decode standardParams [0xA9#8, 0x80#8] = .ok (.lda (.imm 0x80), []) ∧
    decode standardParams [0xA2#8, 0x01#8] = .ok (.ldx (.imm 0x01), []) ∧
    decode standardParams [0xBC#8, 0x34#8, 0x12#8] = .ok (.ldy (.abx 0x1234), []) ∧
    decode standardParams [0x91#8, 0x20#8] = .ok (.sta (.izy 0x20), []) ∧
    decode standardParams [0x96#8, 0xFF#8] = .ok (.stx (.zpy 0xFF), []) ∧
    decode standardParams [0x8C#8, 0x00#8, 0x02#8] = .ok (.sty (.abs 0x0200), []) ∧
    decode standardParams [0xAA#8] = .ok (.tax, []) ∧
    decode standardParams [0xA8#8] = .ok (.tay, []) ∧
    decode standardParams [0x8A#8] = .ok (.txa, []) ∧
    decode standardParams [0x98#8] = .ok (.tya, []) ∧
    decode standardParams [0xBA#8] = .ok (.tsx, []) ∧
    decode standardParams [0x9A#8] = .ok (.txs, []) := by
  and_intros <;> rfl

theorem test_decode_arithmetic :
    decode standardParams [0x61#8, 0x10#8] = .ok (.adc (.izx 0x10), []) ∧
    decode standardParams [0xF9#8, 0x01#8, 0x80#8] = .ok (.sbc (.aby 0x8001), []) ∧
    decode standardParams [0x29#8, 0x0F#8] = .ok (.and (.imm 0x0F), []) ∧
    decode standardParams [0x15#8, 0x0F#8] = .ok (.ora (.zpx 0x0F), []) ∧
    decode standardParams [0x4D#8, 0x34#8, 0x12#8] = .ok (.eor (.abs 0x1234), []) ∧
    decode standardParams [0x2C#8, 0x02#8, 0x20#8] = .ok (.bit (.abs 0x2002), []) ∧
    decode standardParams [0xD1#8, 0x44#8] = .ok (.cmp (.izy 0x44), []) ∧
    decode standardParams [0xE4#8, 0x44#8] = .ok (.cpx (.zp0 0x44), []) ∧
    decode standardParams [0xC0#8, 0x01#8] = .ok (.cpy (.imm 0x01), []) ∧
    decode standardParams [0xFE#8, 0xFF#8, 0x02#8] = .ok (.inc (.abx 0x02FF), []) ∧
    decode standardParams [0xC6#8, 0x20#8] = .ok (.dec (.zp0 0x20), []) ∧
    decode standardParams [0xE8#8] = .ok (.inx, []) ∧
    decode standardParams [0xC8#8] = .ok (.iny, []) ∧
    decode standardParams [0xCA#8] = .ok (.dex, []) ∧
    decode standardParams [0x88#8] = .ok (.dey, []) := by
  and_intros <;> rfl

theorem test_decode_shift :
    decode standardParams [0x0A#8] = .ok (.asl .imp, []) ∧
    decode standardParams [0x4E#8, 0x00#8, 0x03#8] = .ok (.lsr (.abs 0x0300), []) ∧
    decode standardParams [0x36#8, 0x07#8] = .ok (.rol (.zpx 0x07), []) ∧
    decode standardParams [0x6A#8] = .ok (.ror .imp, []) := by
  and_intros <;> rfl

theorem test_decode_control :
    decode standardParams [0x6C#8, 0xFF#8, 0x30#8] = .ok (.jmp (.ind 0x30FF), []) ∧
    decode standardParams [0x20#8, 0x34#8, 0x12#8] = .ok (.jsr (.abs 0x1234), []) ∧
    decode standardParams [0x60#8] = .ok (.rts, []) ∧
    decode standardParams [0x90#8, 0x05#8] = .ok (.bcc (.rel 0x05), []) ∧
    decode standardParams [0xB0#8, 0x05#8] = .ok (.bcs (.rel 0x05), []) ∧
    decode standardParams [0xF0#8, 0x20#8] = .ok (.beq (.rel 0x20), []) ∧
    decode standardParams [0xD0#8, 0xFB#8] = .ok (.bne (.rel 0xFB), []) ∧
    decode standardParams [0x30#8, 0xFC#8] = .ok (.bmi (.rel 0xFC), []) ∧
    decode standardParams [0x10#8, 0xFE#8] = .ok (.bpl (.rel 0xFE), []) ∧
    decode standardParams [0x50#8, 0x7F#8] = .ok (.bvc (.rel 0x7F), []) ∧
    decode standardParams [0x70#8, 0x80#8] = .ok (.bvs (.rel 0x80), []) := by
  and_intros <;> rfl

theorem test_decode_system :
    decode standardParams [0x48#8] = .ok (.pha, []) ∧
    decode standardParams [0x68#8] = .ok (.pla, []) ∧
    decode standardParams [0x08#8] = .ok (.php, []) ∧
    decode standardParams [0x28#8] = .ok (.plp, []) ∧
    decode standardParams [0x18#8] = .ok (.clc, []) ∧
    decode standardParams [0x38#8] = .ok (.sec, []) ∧
    decode standardParams [0x58#8] = .ok (.cli, []) ∧
    decode standardParams [0x78#8] = .ok (.sei, []) ∧
    decode standardParams [0xD8#8] = .ok (.cld, []) ∧
    decode standardParams [0xF8#8] = .ok (.sed, []) ∧
    decode standardParams [0xB8#8] = .ok (.clv, []) ∧
    decode standardParams [0x00#8] = .ok (.brk, []) ∧
    decode standardParams [0x40#8] = .ok (.rti, []) ∧
    decode standardParams [0xEA#8] = .ok (.nop, []) ∧
    decode standardParams [0xFF#8] = .ok (.xxx 0xFF .imp, []) := by
  and_intros <;> rfl

theorem test_decode_follows_the_parameters :
    decode otherParams [0x04#8, 0x10#8] = .ok (.xxx 0x04 (.zp0 0x10), []) ∧
    decode otherParams [0xFF#8] = .ok (.xxx 0xFF .imp, []) := ⟨rfl, rfl⟩

theorem test_decode_refuses_what_ends_too_soon :
    decode standardParams [] = .error .empty ∧ decode standardParams [0xA9#8] = .error (.truncated 0xA9) ∧
    decode standardParams [0x4C#8, 0x00#8] = .error (.truncated 0x4C) := ⟨rfl, rfl, rfl⟩

theorem test_decodeTableWord :
    decodeTableWord 16 0x80A9 = some (.lda (.imm 0x80)) ∧ decodeTableWord 24 0x12346C = some (.jmp (.ind 0x1234)) ∧
    decodeTableWord 8 0xFF6C = some (.jmp (.ind 0x0000)) := by decide +kernel

-- The table: 151 documented and 105 undocumented opcodes (R206, R207)
theorem test_table_counts :
    opcodeTable.length = 256 ∧ (opcodeTable.filter fun e => decide (e.op = .xxx)).length = 105 := by decide +kernel

-- One step of an instruction: the examples of its rule

theorem test_lda :
    after (base) 16 0x80A9 (fun t => decide (t.cpu.a = 0x80 ∧ t.flag .n = true ∧ t.flag .z = false ∧ t.cpu.cycles = 2 ∧ t.cpu.pc = 0x0302)) = true := by decide +kernel

theorem test_lda_page_cross :
    after ((base.setX 0x01)) 24 0x02FFBD (fun t => decide (t.cpu.cycles = 5 ∧ t.flag .z = false ∧ t.cpu.a = 0xBD)) = true := by decide +kernel

theorem test_ldx :
    after (withRam 5 0x00 (base.setY 0x05)) 16 0x00B6 (fun t => decide (t.cpu.x = 0x00 ∧ t.flag .z = true ∧ t.flag .n = false ∧ t.cpu.cycles = 4)) = true := by decide +kernel

theorem test_ldy :
    after (base) 16 0x7FA0 (fun t => decide (t.cpu.y = 0x7F ∧ t.flag .z = false ∧ t.flag .n = false ∧ t.cpu.cycles = 2)) = true := by decide +kernel

theorem test_sta :
    after (base.setA 0x42) 24 0x02008D (fun t => decide (t.ram.read 0x0200 = 0x42 ∧ t.cpu.cycles = 4)) = true := by decide +kernel

theorem test_stx :
    after ((base.setX 0x10).setY 0x01) 16 0xFF96 (fun t => decide (t.ram.read 0x0000 = 0x10 ∧ t.cpu.cycles = 4)) = true := by decide +kernel

theorem test_sty :
    after (base.setY 0x07) 16 0x1084 (fun t => decide (t.ram.read 0x0010 = 0x07 ∧ t.cpu.cycles = 3)) = true := by decide +kernel

theorem test_tax :
    after ((base.setX 0x05).setA 0x00) 8 0xAA (fun t => decide (t.cpu.x = 0x00 ∧ t.flag .z = true ∧ t.flag .n = false)) = true := by decide +kernel

theorem test_tay :
    after (base.setA 0xF0) 8 0xA8 (fun t => decide (t.cpu.y = 0xF0 ∧ t.flag .z = false ∧ t.flag .n = true)) = true := by decide +kernel

theorem test_txa :
    after (base.setX 0x01) 8 0x8A (fun t => decide (t.cpu.a = 0x01 ∧ t.flag .z = false ∧ t.flag .n = false)) = true := by decide +kernel

theorem test_tya :
    after (base.setY 0x80) 8 0x98 (fun t => decide (t.cpu.a = 0x80 ∧ t.flag .z = false ∧ t.flag .n = true)) = true := by decide +kernel

theorem test_tsx :
    after (base) 8 0xBA (fun t => decide (t.cpu.x = 0xFD ∧ t.flag .z = false ∧ t.flag .n = true)) = true := by decide +kernel

theorem test_txs :
    after (base.setX 0xFF) 8 0x9A (fun t => decide (t.cpu.sp = 0xFF ∧ t.cpu.p = 0x20)) = true := by decide +kernel

theorem test_adc :
    after (base.setA 0x50) 16 0x5069 (fun t => decide (t.cpu.a = 0xA0 ∧ t.flag .v = true ∧ t.flag .n = true ∧ t.flag .c = false)) = true := by decide +kernel

theorem test_adc_decimal_ignored :
    after ((base.setA 0x09).setFlag .d true) 16 0x0969 (fun t => decide (t.cpu.a = 0x12)) = true := by decide +kernel

theorem test_sbc :
    after ((base.setA 0x50).setFlag .c true) 16 0xB0E9 (fun t => decide (t.cpu.a = 0xA0 ∧ t.flag .c = false ∧ t.flag .v = true ∧ t.flag .n = true)) = true := by decide +kernel

theorem test_and :
    after (base.setA 0xF0) 16 0x0F29 (fun t => decide (t.cpu.a = 0x00 ∧ t.flag .z = true ∧ t.flag .n = false)) = true := by decide +kernel

theorem test_ora :
    after (base.setA 0x01) 16 0x8009 (fun t => decide (t.cpu.a = 0x81 ∧ t.flag .z = false ∧ t.flag .n = true)) = true := by decide +kernel

theorem test_eor :
    after (base.setA 0xFF) 16 0xFF49 (fun t => decide (t.cpu.a = 0x00 ∧ t.flag .z = true ∧ t.flag .n = false)) = true := by decide +kernel

theorem test_bit :
    after (withRam 0x10 0xC0 (base.setA 0x01)) 16 0x1024 (fun t => decide (t.flag .z = true ∧ t.flag .n = true ∧ t.flag .v = true ∧ t.cpu.a = 0x01)) = true := by decide +kernel

theorem test_cmp :
    after (base.setA 0x00) 16 0x01C9 (fun t => decide (t.flag .c = false ∧ t.flag .z = false ∧ t.flag .n = true)) = true := by decide +kernel

theorem test_cpx :
    after (base.setX 0x10) 16 0x10E0 (fun t => decide (t.flag .c = true ∧ t.flag .z = true ∧ t.flag .n = false)) = true := by decide +kernel

theorem test_cpy :
    after (base.setY 0x00) 16 0x01C0 (fun t => decide (t.flag .c = false ∧ t.flag .z = false ∧ t.flag .n = true)) = true := by decide +kernel

theorem test_inc :
    after (withRam 0x20 0x7F base) 16 0x20E6 (fun t => decide (t.ram.read 0x20 = 0x80 ∧ t.flag .n = true)) = true := by decide +kernel

theorem test_dec :
    after (withRam 0x20 0x01 base) 16 0x20C6 (fun t => decide (t.ram.read 0x20 = 0x00 ∧ t.flag .z = true)) = true := by decide +kernel

theorem test_inx :
    after ((base.setX 0xFF).setFlag .c true) 8 0xE8 (fun t => decide (t.cpu.x = 0x00 ∧ t.flag .z = true ∧ t.flag .n = false ∧ t.flag .c = true)) = true := by decide +kernel

theorem test_iny :
    after (base.setY 0x7F) 8 0xC8 (fun t => decide (t.cpu.y = 0x80 ∧ t.flag .n = true)) = true := by decide +kernel

theorem test_dex :
    after (base.setX 0x00) 8 0xCA (fun t => decide (t.cpu.x = 0xFF ∧ t.flag .n = true ∧ t.flag .z = false)) = true := by decide +kernel

theorem test_dey :
    after (base.setY 0x01) 8 0x88 (fun t => decide (t.cpu.y = 0x00 ∧ t.flag .z = true ∧ t.flag .n = false)) = true := by decide +kernel

theorem test_asl :
    after (base.setA 0x41) 8 0x0A (fun t => decide (t.cpu.a = 0x82 ∧ t.flag .c = false ∧ t.flag .n = true ∧ t.flag .z = false ∧ t.cpu.cycles = 2)) = true := by decide +kernel

theorem test_lsr :
    after (base.setA 0x03) 8 0x4A (fun t => decide (t.cpu.a = 0x01 ∧ t.flag .c = true ∧ t.flag .z = false ∧ t.flag .n = false)) = true := by decide +kernel

theorem test_rol :
    after ((base.setA 0x80).setFlag .c true) 8 0x2A (fun t => decide (t.cpu.a = 0x01 ∧ t.flag .c = true ∧ t.flag .z = false ∧ t.flag .n = false)) = true := by decide +kernel

theorem test_ror :
    after ((withRam 0x10 0x02 base).setFlag .c true) 16 0x1066 (fun t => decide (t.ram.read 0x10 = 0x81 ∧ t.flag .c = false ∧ t.flag .n = true ∧ t.cpu.cycles = 5)) = true := by decide +kernel

theorem test_jmp :
    after (base) 24 0x80004C (fun t => decide (t.cpu.pc = 0x8000 ∧ t.cpu.cycles = 3)) = true := by decide +kernel

theorem test_jmp_indirect_page_wrap :
    after (withRam 0x02FF 0x80 (withRam 0x0200 0x50 (base.setPc 0x0400))) 24 0x02FF6C (fun t => decide (t.cpu.pc = 0x5080 ∧ t.cpu.cycles = 5)) = true := by decide +kernel

theorem test_jsr :
    after (base.setPc 0x8000) 24 0x123420 (fun t => decide (t.ram.read 0x01FD = 0x80 ∧ t.ram.read 0x01FC = 0x02 ∧ t.cpu.sp = 0xFB ∧ t.cpu.pc = 0x1234 ∧ t.cpu.cycles = 6)) = true := by decide +kernel

theorem test_rts :
    after (withRam 0x01FC 0x02 (withRam 0x01FD 0x80 (base.setSp 0xFB))) 8 0x60 (fun t => decide (t.cpu.pc = 0x8003 ∧ t.cpu.sp = 0xFD ∧ t.cpu.cycles = 6)) = true := by decide +kernel

theorem test_bcc :
    after (base.setPc 0x8000) 16 0x0590 (fun t => decide (t.cpu.pc = 0x8007 ∧ t.cpu.cycles = 3)) = true := by decide +kernel

theorem test_bcs :
    after (base.setPc 0x8000) 16 0x05B0 (fun t => decide (t.cpu.pc = 0x8002 ∧ t.cpu.cycles = 2)) = true := by decide +kernel

theorem test_beq :
    after ((base.setPc 0x80F0).setFlag .z true) 16 0x20F0 (fun t => decide (t.cpu.pc = 0x8112 ∧ t.cpu.cycles = 4)) = true := by decide +kernel

theorem test_bne :
    after (base.setPc 0x8010) 16 0xFBD0 (fun t => decide (t.cpu.pc = 0x800D ∧ t.cpu.cycles = 3)) = true := by decide +kernel

theorem test_bmi :
    after ((base.setPc 0x8000).setFlag .n true) 16 0xFC30 (fun t => decide (t.cpu.pc = 0x7FFE ∧ t.cpu.cycles = 4)) = true := by decide +kernel

theorem test_bpl :
    after (base.setPc 0x8000) 16 0xFE10 (fun t => decide (t.cpu.pc = 0x8000 ∧ t.cpu.cycles = 3)) = true := by decide +kernel

theorem test_bvc :
    after (base.setPc 0x8000) 16 0x7F50 (fun t => decide (t.cpu.pc = 0x8081 ∧ t.cpu.cycles = 3)) = true := by decide +kernel

theorem test_bvs :
    after ((base.setPc 0x8000).setFlag .v true) 16 0x8070 (fun t => decide (t.cpu.pc = 0x7F82 ∧ t.cpu.cycles = 4)) = true := by decide +kernel

theorem test_pha :
    after (base.setA 0x42) 8 0x48 (fun t => decide (t.ram.read 0x01FD = 0x42 ∧ t.cpu.sp = 0xFC ∧ t.cpu.cycles = 3)) = true := by decide +kernel

theorem test_pla :
    after ((base.setSp 0xFC).setA 0x42) 8 0x68 (fun t => decide (t.cpu.a = 0x00 ∧ t.flag .z = true ∧ t.flag .n = false ∧ t.cpu.sp = 0xFD ∧ t.cpu.cycles = 4)) = true := by decide +kernel

theorem test_php :
    after (base) 8 0x08 (fun t => decide (t.ram.read 0x01FD = 0x30 ∧ t.cpu.sp = 0xFC ∧ t.cpu.cycles = 3 ∧ t.cpu.p = 0x20)) = true := by decide +kernel

theorem test_plp :
    after (withRam 0x01FD 0xC3 (base.setSp 0xFC)) 8 0x28 (fun t => decide (t.cpu.p = 0xE3 ∧ t.cpu.sp = 0xFD ∧ t.cpu.cycles = 4)) = true := by decide +kernel

theorem test_clc :
    after (base.setP 0x21) 8 0x18 (fun t => decide (t.cpu.p = 0x20)) = true := by decide +kernel

theorem test_sec :
    after (base.setP 0x20) 8 0x38 (fun t => decide (t.cpu.p = 0x21)) = true := by decide +kernel

theorem test_cli :
    after (base.setP 0x24) 8 0x58 (fun t => decide (t.cpu.p = 0x20)) = true := by decide +kernel

theorem test_sei :
    after (base.setP 0x20) 8 0x78 (fun t => decide (t.cpu.p = 0x24)) = true := by decide +kernel

theorem test_cld :
    after (base.setP 0x28) 8 0xD8 (fun t => decide (t.cpu.p = 0x20)) = true := by decide +kernel

theorem test_sed :
    after (base.setP 0x20) 8 0xF8 (fun t => decide (t.cpu.p = 0x28)) = true := by decide +kernel

theorem test_clv :
    after (base.setP 0x60) 8 0xB8 (fun t => decide (t.cpu.p = 0x20)) = true := by decide +kernel

theorem test_brk :
    after (withPrg 0xFFFF 0x90 (base.setPc 0x8000)) 8 0x00 (fun t => decide (t.ram.read 0x01FD = 0x80 ∧ t.ram.read 0x01FC = 0x02 ∧ t.ram.read 0x01FB = 0x30 ∧ t.cpu.sp = 0xFA ∧ t.cpu.p = 0x24 ∧ t.cpu.pc = 0x9000 ∧ t.cpu.cycles = 7)) = true := by decide +kernel

theorem test_rti :
    after (withRam 0x01FB 0x30 (withRam 0x01FC 0x02 (withRam 0x01FD 0x80 (base.setSp 0xFA)))) 8 0x40 (fun t => decide (t.cpu.p = 0x30 ∧ t.cpu.pc = 0x8002 ∧ t.cpu.sp = 0xFD ∧ t.cpu.cycles = 6)) = true := by decide +kernel

theorem test_nop :
    after (base.setPc 0x8000) 8 0xEA (fun t => decide (t.cpu.pc = 0x8001 ∧ t.cpu.cycles = 2)) = true := by decide +kernel

theorem test_xxx :
    after (base.setPc 0x8000) 8 0x04 (fun t => decide (t.cpu.pc = 0x8001 ∧ t.cpu.cycles = 3 ∧ t.cpu.p = 0x20 ∧ t.ram = [])) = true := by decide +kernel

theorem test_xxx_other_parameters :
    after { base.setPc 0x8000 with params := otherParams } 8 0x04 (fun t => decide (t.cpu.pc = 0x8002 ∧ t.cpu.cycles = 5)) = true := by decide +kernel

/-- PC at the last byte of cartridge RAM, which holds the opcode `b`; the byte after it is beyond the program image. -/
def atImageEnd (b : Byte) (p : Params) : State :=
  let m : TargetMapper := { r0 := 0, r1 := 0, r2 := 0, r3 := 0, r4 := 0, r5 := 0, r6 := 63, r7 := 1, target := 0,
                            prgMode := false, chrInv := false, mirror := .hardware, irqActive := false,
                            irqEnable := false, irqCounter := 0, irqReload := 0, cram := [(0x1FFF, b)] }
  { (base.setMapper (.target m)).setPc 0x7FFF with params := p }

-- 40_addressing_modes.md R233, R250, R256: LDA reads its immediate byte, XXX put in mode IMM does not.
theorem test_xxx_immediate_makes_no_read :
    let imm : Params := { standardParams with undefMode := [(0x04, .imm)] }
    let t := (fetch (atImageEnd 0x04 imm)).state
    let u := (fetch (atImageEnd 0xA9 imm)).state
    t.freeIndex = 0 ∧ t.cpu.pc = 0x8001 ∧ u.freeIndex = 1 ∧ u.cpu.pc = 0x8001 := by decide +kernel

-- The machine

-- 70_reset_and_hazards.md R561, 10_state.md R71: the reset state is what a full reset leaves.
theorem test_reset_is_a_full_reset : fullReset State.reset = State.reset := by decide +kernel
theorem test_reset_memory_is_canonical :
    State.reset.ram.wf = true ∧ State.reset.ppu.oam.wf = true ∧ State.reset.cart.prg.wf = true := by decide +kernel

-- The very next step of withFetchWord runs the word, PC moved to 0x0000 when it points at no memory.
theorem test_withFetchWord_from_an_unmapped_pc :
    after (State.reset.setPc 0x5000) 16 0x80A9 (fun t => decide (t.cpu.a = 0x80 ∧ t.cpu.pc = 0x0002)) = true := by decide +kernel

-- 60_exceptions.md R524: P=0x20, SP=0xFD, PC=0x8123, vector 0x9000.
theorem test_irq :
    let t := irq (withPrg 0xFFFF 0x90 (base.setPc 0x8123))
    t.cpu.pc = 0x9000 ∧ t.cpu.sp = 0xFA ∧ t.cpu.p = 0x24 ∧ t.ram.read 0x01FD = 0x81 ∧ t.ram.read 0x01FC = 0x23 ∧
      t.ram.read 0x01FB = 0x20 ∧ t.cpu.cycles = 7 := by decide +kernel

-- R525, R529: an NMI is taken with I set, and the IRQ of the same tick is lost.
theorem test_nmi_before_irq :
    let m : TargetMapper := { r0 := 0, r1 := 0, r2 := 0, r3 := 0, r4 := 0, r5 := 0, r6 := 0, r7 := 1, target := 0,
                              prgMode := false, chrInv := false, mirror := .hardware, irqActive := true,
                              irqEnable := true, irqCounter := 0, irqReload := 0, cram := [] }
    let s := (base.setMapper (.target m)).setPpu { base.ppu with nmiPending := true }
    let t := endTick s
    t.cpu.sp = 0xFA ∧ t.cpu.cycles = 8 ∧ t.cart.mapper.irqState = false ∧ t.ppu.nmiPending = false := by decide +kernel

-- 20_memory.md R89: a store to 0x4014 arms the DMA.
theorem test_dma_arm :
    (memWrite 0x4014 0x02 base).dma = { page := 0x02, addr := 0, data := 0, idle := true, transfer := true } := by decide +kernel

-- 50_ppu.md R416, R417: the address in two writes, a palette read at once.
theorem test_palette_through_the_ports :
    let s := memWrite 0x2007 0x2A (memWrite 0x2006 0x01 (memWrite 0x2006 0x3F base))
    s.ppu.v = 0x3F02 ∧ (memRead 0x2007 (memWrite 0x2006 0x01 (memWrite 0x2006 0x3F s))).1 = 0x2A := by decide +kernel

-- 20_memory.md R92, R93: the first bits out are those of A and B.
theorem test_controller :
    let s := memWrite 0x4016 0x01 (base.setController0 0x80)
    (memRead 0x4016 s).1 = 0x01 ∧ (memRead 0x4016 (memRead 0x4016 s).2).1 = 0x00 := by decide +kernel

-- 21_cartridge_mappers.md R171: the low bank of variant 2 follows a write, the high one does not.
theorem test_low_bank_switch :
    let s := base.setCart { base.cart with prgBanks := 4, mapper := .lowBank 0, prg := [(0x8000, 0x22), (0xC000, 0x33)] }
    (memRead 0x8000 (memWrite 0xC000 0x02 s)).1 = 0x22 ∧ (memRead 0xC000 (memWrite 0xC000 0x02 s)).1 = 0x33 := by decide +kernel

-- 21_cartridge_mappers.md R161, R162: the windows of variant 1 in PRG mode 2 with split character banks.
theorem test_serial_selects :
    let m : SerialMapper := { load := 0, loadCount := 0, control := 0x1B, chrLo := 2, chrHi := 5, prg := 3,
                              mirror := .horizontal, cram := [] }
    m.prgOffset 8 0x8001 = 0x0001 ∧ m.prgOffset 8 0xC001 = 0xC001 ∧ m.chrOffset 0x0FFF = 0x2FFF ∧
      m.chrOffset 0x1000 = 0x5000 := by decide +kernel

-- 92_eei_decisions.md D47: cycle 1 of the pre-render scanline clears the sprite-zero flags.
theorem test_pre_render_clears_sprite_zero :
    let p := (ppuClock (base.setPpu { base.ppu with scanline := -1, cycle := 1, spr0Possible := true,
                                                    spr0Rendering := true, spriteZeroHit := true })).ppu
    p.spr0Possible = false ∧ p.spr0Rendering = false ∧ p.spriteZeroHit = false := by decide +kernel

-- 50_ppu.md R455, R462: one clock at cycle 256 of scanline 239 emits (255, 239); the scanline call comes at cycle 260.
theorem test_ppu_clock_composes_and_ticks_the_mapper :
    let m : TargetMapper := { r0 := 0, r1 := 0, r2 := 0, r3 := 0, r4 := 0, r5 := 0, r6 := 0, r7 := 1, target := 0,
                              prgMode := false, chrInv := false, mirror := .hardware, irqActive := false,
                              irqEnable := true, irqCounter := 1, irqReload := 3, cram := [] }
    let s := ((base.setMapper (.target m)).setRenderEnable true).setPpu { base.ppu with scanline := 239, cycle := 256 }
    (ppuClock s).sink = some { x := 255, y := 239, colour := 0 } ∧ (ppuClock s).cart.mapper.irqState = false ∧
      (ppuClock (s.setPpu { s.ppu with cycle := 260 })).cart.mapper.irqState = true := by decide +kernel

-- 93_implementation_defined.md U18: a cartridge without a program bank is refused.
theorem test_insert_refuses_no_program_bank :
    insertCartridge (Cartridge.ofParameters 0 0 0 .horizontal [] []) base = .refused .cartridgeRejected := rfl

-- Witnesses of hypotheses

theorem witness_DecodeOfEncodeIsTheInstruction :
    (Instr.jmp (.ind 0x30FF)).wellFormed standardParams = true ∧ (Instr.xxx 0xFF .imp).wellFormed standardParams = true := by decide +kernel

theorem witness_StepRunsTheDecodedInstruction :
    let s := base.withFetchWord 16 0x80A9
    let u := ppuClock { s with sink := none }
    s.dma.transfer = false ∧ s.clock % 3 = 0 ∧ s.cpu.cycles = 0 ∧ memRead u.cpu.pc u = (0xA9, u) ∧
      memRead (u.cpu.pc + 1) u = (0x80, u) ∧ memRead (u.cpu.pc + 2) u = (0x00, u) ∧
      decode standardParams [0xA9#8, 0x80#8, 0x00#8] = .ok (.lda (.imm 0x80), [0x00#8]) := by decide +kernel

/-- The lengths 1, 2 and 3 and the byte that is not read occur. -/
theorem witness_StepRunsTheDecodedInstruction_fetch :
    let imm : Params := { standardParams with undefMode := [(0x04, .imm)] }
    (imm.entry 0xEA).mode.length = 1 ∧ (imm.entry 0xA9).mode.length = 2 ∧ (imm.entry 0xAD).mode.length = 3 ∧
    (imm.entry 0x04).op = .xxx ∧ (imm.entry 0x04).mode = .imm := by decide +kernel

/-- A state with a transfer in progress. -/
def inTransfer : State := base.setDma { page := 2, addr := 0, data := 0, idle := true, transfer := true }

theorem witness_TickOrderAndClockRatio :
    (base.dma.transfer = false ∧ (base.setClock 1).clock % 3 ≠ 0 ∧ (base.setClock 2).clock % 3 ≠ 0) ∧
    (base.clock % 3 = 0 ∧ base.cpu.cycles ≠ 0 ∧ (base.setCycles 1).cpu.cycles ≠ 0) ∧
    (inTransfer.dma.transfer = true ∧ inTransfer.clock % inTransfer.params.dmaSlotPeriod = 0) ∧
    ((inTransfer.setClock 1).dma.transfer = true ∧
      (inTransfer.setClock 1).clock % inTransfer.params.dmaSlotPeriod ≠ 0) := by decide +kernel

theorem witness_StepsAdvanceTheClockAndClearRequests : ∃ t : State, step State.reset = .next t := ⟨_, rfl⟩

theorem witness_StepKeepsTheInvariant : State.reset.inv = true ∧ ∃ t : State, step State.reset = .next t :=
  ⟨by decide +kernel, _, rfl⟩

/-- The reset state with a cartridge of one character bank. -/
def withChr : State := base.setCart { base.cart with chrBanks := 1 }

theorem witness_NoStepWritesTheCartridgeImages : withChr.cart.chrBanks ≠ 0 ∧ ∃ t : State, step withChr = .next t :=
  ⟨by decide +kernel, _, rfl⟩

theorem witness_ModesComputeTheirAddress :
    (applyMode (.abx 0x02FF) (base.setX 1)).crossed = true ∧ (applyMode (.abx 0x02FE) (base.setX 1)).crossed = false ∧
    (applyMode (.aby 0xFFFF) (base.setY 1)).crossed = true ∧ (Operand.abs 0x0000).mode ≠ .ind := by decide +kernel

theorem witness_OperandIsTheByteAtTheEffectiveAddress :
    (Operand.abs 0x0000).mode ≠ .imp ∧ (Operand.abs 0x0000).mode ≠ .imm := by decide +kernel

theorem witness_StoresWriteTheirRegisterOnce : base.inv = true := by decide +kernel

theorem witness_ShiftsAndRotatesGoThroughTheCarry : Operand.zp0 0x00 ≠ .imp ∧ base.inv = true := by decide +kernel

theorem witness_BranchesTestTheirFlag :
    ([Flag.c, .z, .n, .v].all fun f =>
      decide ((base.setFlag f true).flag f = true ∧ (base.setFlag f false).flag f = false)) = true := by
  decide +kernel

theorem witness_NopAndUndocumentedOpcodesOnlyTakeTime :
    base.params.undefMode.lookup 0x04 = none ∧ base.params.undefCycles.lookup 0x04 = none ∧
    otherParams.undefMode.lookup 0x04 = some .zp0 ∧
    (undefCycleList.any fun e => e.2.contains 0x04) = true := by decide +kernel

theorem witness_OnlyTheNamedOpcodesCostOneMore :
    (tableEntry 0xBD).mode ≠ .rel ∧ 0xBD ∈ extraCycleOpcodes ∧ 0x9D ∉ extraCycleOpcodes ∧
    (applyMode (Operand.ofBytes (tableEntry 0xBD).mode 0xFF 0x02) (base.setX 1)).crossed = true := by decide +kernel

theorem witness_InterruptEntriesSaveStatusAndPc :
    (base.setFlag .i true).flag .i = true ∧ base.flag .i = false ∧ base.inv = true := by decide +kernel

theorem witness_ReturnsUndoTheirEntries :
    base.inv = true ∧ base.flag .i = false ∧ (base.setSp 0x00).inv = true ∧ (base.setSp 0xFF).inv = true := by decide +kernel

/-- Variant 4 with its interrupt flag as given. -/
def targetMapper (active : Bool) : TargetMapper :=
  { r0 := 0, r1 := 0, r2 := 0, r3 := 0, r4 := 0, r5 := 0, r6 := 0, r7 := 1, target := 0, prgMode := false,
    chrInv := false, mirror := .hardware, irqActive := active, irqEnable := true, irqCounter := 0, irqReload := 3,
    cram := [] }

/-- A state with the two requests as given. -/
def requesting (n q : Bool) : State :=
  (base.setMapper (.target (targetMapper q))).setPpu { base.ppu with nmiPending := n }

theorem witness_TickDeliversNmiBeforeIrq :
    ∀ n q : Bool, (requesting n q).ppu.nmiPending = n ∧ (requesting n q).cart.mapper.irqState = q := by decide +kernel

theorem witness_RamAndPortsAreImaged :
    base.ram.wf = true ∧ (0x1FFF : Word).toNat < 0x2000 ∧ 0x2000 ≤ (0x2000 : Word).toNat ∧
    (0x3FFF : Word).toNat < 0x4000 := by decide +kernel

theorem witness_UnmappedAddressesReadZero :
    ([(0x4000 : Word), 0x4013, 0x4014, 0x4015, 0x4018, 0x5FFF].all fun a =>
      decide (0x4000 ≤ a.toNat ∧ a.toNat < 0x6000 ∧ a ≠ 0x4016 ∧ a ≠ 0x4017)) = true ∧
    ([(0x6000 : Word), 0x7FFF].all fun a =>
      decide (0x4000 ≤ a.toNat ∧ a.toNat < 0x8000 ∧ base.cart.mapper.hasCram = false ∧ a ≠ 0x4014)) = true := by
  decide +kernel

theorem witness_OnlyFourKindsOfReadHaveSideEffects :
    ([(0x2002 : Word), 0x3FFA].all fun a =>
      decide (0x2000 ≤ a.toNat ∧ a.toNat < 0x4000 ∧ a.toNat % 8 = 2)) = true ∧
    ([(0x2007 : Word), 0x3FFF].all fun a =>
      decide (0x2000 ≤ a.toNat ∧ a.toNat < 0x4000 ∧ a.toNat % 8 = 7)) = true ∧
    ([(0x0000 : Word), 0x2000, 0x3FFE, 0x4000, 0x7FFF].all fun a =>
      decide (¬((0x2000 ≤ a.toNat ∧ a.toNat < 0x4000) ∧ (a.toNat % 8 = 2 ∨ a.toNat % 8 = 7)) ∧ a ≠ 0x4016 ∧
        a ≠ 0x4017 ∧ a.toNat < 0x8000)) = true ∧
    ¬(0x2000 ≤ (0x8000 : Word).toNat ∧ (0x8000 : Word).toNat < 0x4000) ∧
    cpuMapRead base.cart 0xFFFF = .offset 0x3FFF := by
  decide +kernel

theorem witness_BusWritesChangeOneByteOfMemory :
    base.inv = true ∧ (0x1FFF : Word).toNat < 0x2000 ∧ 0x4000 ≤ (0x4000 : Word).toNat ∧ (0x4015 : Word) ≠ 0x4014 := by
  decide +kernel

theorem witness_DmaCopiesAPageToOam :
    base.inv = true ∧ (base.setClock 1).inv = true ∧ base.dma.transfer = false ∧ (0x1F : Byte).toNat < 0x20 ∧
    base.clock % 2 = 0 ∧ (base.setClock 1).clock % 2 ≠ 0 ∧
    ∀ k : Byte, memRead ((0x1F : Byte) ++ k) base = (0x00, base) := by
  refine ⟨by decide +kernel, by decide +kernel, by decide +kernel, by decide +kernel, by decide +kernel, by decide +kernel, fun k => ?_⟩
  have hk : k.toNat < 256 := k.isLt
  have ha : ((0x1F : Byte) ++ k).toNat < 0x2000 := by
    simp only [BitVec.toNat_append]
    rw [← Nat.shiftLeft_add_eq_or_of_lt hk]
    simp [Nat.shiftLeft_eq]
    omega
  rw [memRead_ram ha]
  rfl

theorem witness_DmaCopiesAPageToOam_upper_pages :
    0x40 ≤ (0x50 : Byte).toNat ∧
    ([(0x00 : Byte), 0xFF].all fun k => decide (memRead ((0x50 : Byte) ++ k) base = (0x00, base))) = true := by
  decide +kernel

theorem witness_ControlStatusAndOamPorts : base.inv = true := by decide +kernel

theorem witness_ScrollAndAddressPortsTakeTwoWrites :
    base.ppu.addressLatch = false ∧ (base.setPpu { base.ppu with addressLatch := true }).ppu.addressLatch = true := by
  decide +kernel

theorem witness_DataPortReachesThePpuSpace :
    base.inv = true ∧ base.cart.chrBanks = 0 ∧ (0x1FFF : Word).toNat % 0x4000 < 0x2000 ∧
    ([(0x2000 : Word), 0x3EFF].all fun a => decide (0x2000 ≤ a.toNat % 0x4000 ∧ a.toNat % 0x4000 < 0x3F00)) = true ∧
    ([(0x3F00 : Word), 0x3FFF].all fun a => decide (0x3F00 ≤ a.toNat % 0x4000)) = true := by decide +kernel

theorem witness_ScrollMovesOnlyWhileRendering :
    base.ppu.rendering = false ∧ ({ base.ppu with mask := 0x08 } : Ppu).rendering = true ∧
    base.ppu.mask.getLsbD 3 = false ∧ base.ppu.mask.getLsbD 4 = false ∧
    (base.setPpu { base.ppu with cycle := 339 }).ppu.cycle < 340 := by decide +kernel

/-- A state at a position of the frame. -/
def atPosition (line : Int) (cycle : Nat) : State := base.setPpu { base.ppu with scanline := line, cycle := cycle }

theorem witness_BackgroundPipelineFetchesAndShifts :
    let drawn := fun (line : Int) (c : Nat) => ({ base.ppu with mask := 0x08, scanline := line, cycle := c } : Ppu)
    ([(-1, 8), (0, 248), (239, 328), (0, 336)].all fun e => let p := drawn e.1 e.2
      decide ((-1 ≤ p.scanline ∧ p.scanline ≤ 239) ∧ p.mask.getLsbD 3 = true ∧ p.cycle ≠ 256 ∧ p.cycle % 8 = 0 ∧
        ((2 ≤ p.cycle ∧ p.cycle ≤ 257) ∨ (321 ≤ p.cycle ∧ p.cycle ≤ 337)))) = true ∧
    (drawn 0 256).cycle % 8 = 0 ∧ (drawn 0 257).cycle = 257 ∧
    ([280, 304].all fun c => decide ((drawn (-1) c).scanline = -1 ∧ 280 ≤ (drawn (-1) c).cycle ∧
      (drawn (-1) c).cycle ≤ 304)) = true ∧
    ¬((drawn 0 305).cycle % 8 = 0) ∧ (drawn 0 305).cycle ≠ 257 ∧ (drawn 0 305).scanline ≠ -1 := by decide +kernel

/-- One active slot whose sprite is at the top of the picture. -/
def withSprite (x : Byte) : State :=
  base.setPpu { base.ppu with mask := 0x10, sprCount := 1, slots := [{ y := 0, id := 1, attr := 0, x := x, lo := 1, hi := 1 }] }

theorem witness_SpritePipelineShiftsAndFetches :
    let drawn := fun (line : Int) (c : Nat) => ({ (withSprite 0).ppu with scanline := line, cycle := c } : Ppu)
    ([2, 256].all fun c => let p := drawn 239 c
      decide ((-1 ≤ p.scanline ∧ p.scanline ≤ 239) ∧ 2 ≤ p.cycle ∧ p.cycle ≤ 257 ∧ ¬p.cycle = 257 ∧
        p.mask.getLsbD 4 = true ∧ 0 < p.sprCount)) = true ∧
    ((drawn (-1) 257).cycle = 257 ∧ ¬0 ≤ (drawn (-1) 257).scanline) ∧
    (0 ≤ (drawn 0 257).scanline ∧ (drawn 0 257).scanline ≤ 239 ∧ (drawn 0 257).cycle = 257) ∧
    ((drawn (-1) 1).scanline = -1 ∧ (drawn (-1) 1).cycle = 1) ∧
    ((drawn 0 340).cycle = 340 ∧ 0 < (drawn 0 340).sprCount ∧
      ((1 : Nat) : Int) = (drawn 0 340).scanline + base.params.spriteEvalOffset - (0x00 : Byte).toNat ∧
      1 < if (drawn 0 340).ctrl.getLsbD 5 = true then 16 else 8) ∧
    (withSprite 0).ppu.slots[0]? = some { y := 0, id := 1, attr := 0, x := 0, lo := 1, hi := 1 } ∧
    (withSprite 0).ppu.slots[1]? = none := by decide +kernel

/-- With character RAM no PPU read draws a free value. -/
theorem witness_SpritePipelineShiftsAndFetches_reads : ∀ a : Word, (ppuRead a base).2 = base := by
  intro a
  by_cases h : a.toNat % 0x4000 < 0x2000
  · have hm : ppuMapRead base.cart (a.toNat % 0x4000) = some (a.toNat % 0x4000) := by
      simp only [ppuMapRead, h, if_true]
      rfl
    have hs : base.cart.chrSize = 0x2000 := rfl
    simp [ppuRead, cartPpuRead, hm, hs, h]
  · have hm : ppuMapRead base.cart (a.toNat % 0x4000) = none := by simp [ppuMapRead, h]
    simp only [ppuRead, cartPpuRead, hm, h, if_false]
    split <;> rfl

theorem witness_PpuClockWritesNoMemory :
    let tick := base.params.mapperTickCycle
    ([0, 239].all fun l => decide ((0 ≤ (atPosition l tick).ppu.scanline ∧ (atPosition l tick).ppu.scanline ≤ 239) ∧
      (atPosition l tick).ppu.cycle = base.params.mapperTickCycle)) = true ∧
    ([-1, 240].all fun l => decide (¬(0 ≤ (atPosition l tick).ppu.scanline ∧ (atPosition l tick).ppu.scanline ≤ 239))) = true := by
  decide +kernel

theorem witness_PositionGoesRoundTheFrame :
    (atPosition 260 340).inv = true ∧ (atPosition 260 340).ppu.position + 1 = 89342 ∧ (atPosition (-1) 0).inv = true ∧
    (base.setPpu { base.ppu with oddFrame := true, mask := 0x10 }).inv = true ∧
    ({ base.ppu with oddFrame := true, mask := 0x10 } : Ppu).skips = true := by decide +kernel

theorem witness_EveryFrameCompletes : State.reset.inv = true ∧ (atPosition (-1) 0).inv = true := by decide +kernel

theorem witness_VerticalBlankRisesAndFallsOnce :
    ((atPosition 241 1).ppu.scanline = 241 ∧ (atPosition 241 1).ppu.cycle = 1) ∧
    ((atPosition (-1) 1).ppu.scanline = -1 ∧ (atPosition (-1) 1).ppu.cycle = 1) ∧
    (¬((atPosition 241 2).ppu.scanline = 241 ∧ (atPosition 241 2).ppu.cycle = 1) ∧
      ¬((atPosition 241 2).ppu.scanline = -1 ∧ (atPosition 241 2).ppu.cycle = 1)) := by decide +kernel

theorem witness_CompositorFollowsThePriorityTable :
    (1 : BitVec 2) ≠ 0 ∧ (atPosition 0 1).renderEnable = false ∧ ((atPosition 239 256).setRenderEnable true).renderEnable = true ∧
    0 ≤ (atPosition 0 1).ppu.scanline ∧ (atPosition 239 256).ppu.scanline ≤ 239 ∧ 1 ≤ (atPosition 0 1).ppu.cycle ∧
    (atPosition 239 256).ppu.cycle ≤ 256 ∧
    base.ppu.mask.getLsbD 3 = false ∧ ({ base.ppu with mask := 0x08, cycle := 9 } : Ppu).mask.getLsbD 3 = true ∧
    ({ base.ppu with mask := 0x06 } : Ppu).mask.getLsbD 1 = true ∧ 9 ≤ ({ base.ppu with mask := 0x08, cycle := 9 } : Ppu).cycle ∧
    (withSprite 0).ppu.mask.getLsbD 4 = true ∧ (0 < (withSprite 0).ppu.sprCount ∧
      ((withSprite 0).ppu.slots[0]?.any fun sl => decide (sl.x = 0 ∧ sl.lo ≠ 0)) = true) ∧
    ((withSprite 3).ppu.slots[0]?.any fun sl => decide (sl.x ≠ 0)) = true := by decide +kernel

/-- A cartridge of four program and four character banks with the given mapper. -/
def withMapper (m : Mapper) : State := base.setCart { base.cart with prgBanks := 4, chrBanks := 4, mapper := m }

theorem witness_FixedMapperMirrorsOneBank :
    base.cart.mapper = .fixed ∧ 0x8000 ≤ (0x8000 : Word).toNat ∧ 0x8000 ≤ (0xFFFF : Word).toNat ∧
    base.cart.prgBanks = 1 ∧ (withMapper .fixed).cart.mapper = .fixed ∧ 1 < (withMapper .fixed).cart.prgBanks ∧
    0x1FFF < 0x2000 ∧ 0 < (withMapper .fixed).cart.chrBanks := by
  decide +kernel

theorem witness_SelectRegistersSwitchBanks :
    let v : Byte := 0x13
    0x8000 ≤ (0x8000 : Word).toNat ∧ (0xBFFF : Word).toNat < 0xC000 ∧ 0xC000 ≤ (0xC000 : Word).toNat ∧
    (withMapper (.lowBank 0)).cart.mapper = .lowBank 0 ∧ 0 < (withMapper (.lowBank 0)).cart.chrBanks ∧
    v.toNat % 16 * 0x4000 + (0xBFFF : Word).toNat % 0x4000 < (withMapper (.lowBank 0)).cart.prgSize ∧
    (withMapper (.chrBank 0)).cart.mapper = .chrBank 0 ∧ 1 ≤ (withMapper (.chrBank 0)).cart.prgBanks ∧
    0x1FFF < 0x2000 ∧ 0 < (withMapper (.chrBank 0)).cart.chrBanks ∧
    v.toNat % 4 < (withMapper (.chrBank 0)).cart.chrBanks ∧
    (withMapper (.combined 0 0)).cart.mapper = .combined 0 0 ∧
    v.toNat / 16 % 4 * 0x8000 + (0xFFFF : Word).toNat % 0x8000 < (withMapper (.combined 0 0)).cart.prgSize := by decide +kernel

/-- Variant 1 at its reset values. -/
def serialMapper : SerialMapper :=
  { load := 0, loadCount := 0, control := 0x0C, chrLo := 0, chrHi := 0, prg := 0, mirror := .hardware, cram := [] }

/-- Each variant is the mapper of some state. -/
theorem witness_FullResetSetsEveryRegister :
    (withMapper .fixed).cart.mapper = .fixed ∧ (withMapper (.lowBank 3)).cart.mapper = .lowBank 3 ∧
    (withMapper (.chrBank 3)).cart.mapper = .chrBank 3 ∧ (withMapper (.combined 1 2)).cart.mapper = .combined 1 2 ∧
    (withMapper (.serial serialMapper)).cart.mapper = .serial serialMapper ∧
    (withMapper (.target (targetMapper true))).cart.mapper = .target (targetMapper true) := by decide +kernel

theorem witness_SerialMapperLoadsAndBanks :
    (withMapper (.serial serialMapper)).cart.mapper = .serial serialMapper ∧ serialMapper.loadCount = 0 ∧
    ([(0x8000 : Word), 0x9FFF, 0xA000, 0xBFFF, 0xC000, 0xDFFF, 0xE000, 0xFFFF].all fun a =>
      decide (0x8000 ≤ a.toNat)) = true ∧
    128 ≤ (0x80 : Byte).toNat ∧ ([(0x00 : Byte), 0x7F].all fun v => decide (v.toNat < 128)) = true ∧ (0x9FFF : Word).toNat < 0xA000 ∧
    (0xA000 ≤ (0xA000 : Word).toNat ∧ (0xBFFF : Word).toNat < 0xC000) ∧
    (0xC000 ≤ (0xC000 : Word).toNat ∧ (0xDFFF : Word).toNat < 0xE000) ∧ 0xE000 ≤ (0xE000 : Word).toNat := by decide +kernel

/-- Every program and character mode of variant 1 has a state whose windows lie in the images. -/
theorem witness_SerialMapperLoadsAndBanks_windows :
    ([(0x00, 0), (0x08, 2), (0x0C, 3), (0x1C, 3)].all fun e =>
      let m := { serialMapper with control := BitVec.ofNat 5 e.1, prg := 2, chrLo := 2, chrHi := 3 }
      let s := withMapper (.serial m)
      decide (m.control.toNat / 4 % 4 = e.2 ∧ 0 < s.cart.chrBanks ∧ m.prg.toNat / 2 * 0x8000 + 0x7FFF < s.cart.prgSize ∧
        m.prg.toNat * 0x4000 + 0x3FFF < s.cart.prgSize ∧ m.chrLo.toNat / 2 * 0x2000 + 0x1FFF < s.cart.chrSize ∧
        m.chrHi.toNat * 0x1000 + 0xFFF < s.cart.chrSize)) = true ∧
    (0x6000 ≤ (0x6000 : Word).toNat ∧ (0x7FFF : Word).toNat < 0x8000) := by decide +kernel

theorem witness_TargetMapperBanksAndScanlineCounter :
    let s := withMapper (.target (targetMapper false))
    s.cart.mapper = .target (targetMapper false) ∧ 1 ≤ s.cart.prgBanks ∧
    (0x05 : Byte).toNat % 64 < 2 * s.cart.prgBanks ∧ 0 < s.cart.chrBanks ∧
    ([(0x8000, 0), (0x9FFE, 0), (0xA000, 1), (0xBFFE, 1), (0xC000, 2), (0xDFFE, 2), (0xE000, 3), (0xFFFE, 3)].all fun e =>
      decide (e.1 % 2 = 0 ∧ (e.1 + 1) % 2 ≠ 0 ∧ (e.1 - 0x8000) / 0x2000 = e.2 ∧ (e.1 + 1 - 0x8000) / 0x2000 = e.2)) = true ∧
    [0, 1, 0, 1, 0, 0, 0, 0][0x1FFF / 0x400]? = some 0 ∧ 0 * 0x400 + 0x1FFF % 0x400 < s.cart.chrSize ∧
    (0x6000 ≤ (0x6000 : Word).toNat ∧ (0x7FFF : Word).toNat < 0x8000) ∧
    (0x8000 ≤ (0x8000 : Word).toNat ∧ (0x9FFF : Word).toNat < 0xA000) ∧
    (0xA000 ≤ (0xA000 : Word).toNat ∧ (0xBFFF : Word).toNat < 0xC000) ∧
    (0xC000 ≤ (0xC000 : Word).toNat ∧ (0xDFFF : Word).toNat < 0xE000) ∧ 0xE000 ≤ (0xE000 : Word).toNat ∧
    (targetMapper false).irqCounter = 0 ∧ (targetMapper false).irqEnable = true ∧
    (targetMapper false).irqActive = false := by decide +kernel

end Sys2Proof.Tests
end

section
/-! SUPPORT. The invariant taken apart: one named field for each thing it says, the part outside the CPU apart from
the CPU's, and what keeps each part. -/
namespace Sys2Proof.Machine

-- Memories

/-- A memory in canonical form and within its size. -/
def Memory.Fits (size : Nat) (m : Memory) : Prop := m.wf = true ∧ m.within size = true

theorem Memory.Fits.write {size a : Nat} {m : Memory} (h : m.Fits size) (ha : a < size) (v : Byte) :
    (m.write a v).Fits size :=
  ⟨Memory.wf_write h.1 a v, Memory.within_write h.2 ha v⟩

-- The PPU

/-- `Ppu.inv`, a field for each range and each memory. -/
structure Ppu.Valid (p : Ppu) : Prop where
  scanline : -1 ≤ p.scanline ∧ p.scanline ≤ 260
  cycle : p.cycle ≤ 340
  sprCount : p.sprCount ≤ 8
  slots : p.slots.length = 8
  nt0 : p.nt0.Fits 0x400
  nt1 : p.nt1.Fits 0x400
  pal : p.pal.Fits 32
  oam : p.oam.Fits 256
  pt0 : p.pt0.Fits 0x1000
  pt1 : p.pt1.Fits 0x1000

theorem Ppu.inv_iff (p : Ppu) : p.inv = true ↔ p.Valid := by
  simp only [Ppu.inv, Bool.and_eq_true, decide_eq_true_eq]
  constructor
  · intro h
    constructor <;> simp [Memory.Fits, h]
  · rintro ⟨hline, hcycle, hcount, hslots, hnt0, hnt1, hpal, hoam, hpt0, hpt1⟩
    simp only [Memory.Fits] at hnt0 hnt1 hpal hoam hpt0 hpt1
    simp [*]

-- The cartridge

/-- The mapper's part: cartridge RAM of its size, and the load count of variant 1 in range. -/
structure Mapper.Valid (m : Mapper) : Prop where
  cram : m.cram.Fits 0x2000
  count : m.inv = true

/-- The cartridge's part: `Cartridge.wf` with `Mapper.inv`. -/
structure Cartridge.Valid (c : Cartridge) : Prop where
  banks : 1 ≤ c.prgBanks
  prg : c.prg.Fits c.prgSize
  chr : c.chr.Fits c.chrSize
  mapper : c.mapper.Valid

theorem Cartridge.wf_and_inv_iff (c : Cartridge) : (c.wf = true ∧ c.mapper.inv = true) ↔ c.Valid := by
  simp only [Cartridge.wf, Bool.and_eq_true, decide_eq_true_eq]
  constructor
  · rintro ⟨⟨⟨⟨⟨⟨⟨hbanks, hprg⟩, hprgSize⟩, hchr⟩, hchrSize⟩, hcram⟩, hcramSize⟩, hcount⟩
    exact ⟨hbanks, ⟨hprg, hprgSize⟩, ⟨hchr, hchrSize⟩, ⟨hcram, hcramSize⟩, hcount⟩
  · rintro ⟨hbanks, ⟨hprg, hprgSize⟩, ⟨hchr, hchrSize⟩, ⟨hcram, hcramSize⟩, hcount⟩
    exact ⟨⟨⟨⟨⟨⟨⟨hbanks, hprg⟩, hprgSize⟩, hchr⟩, hchrSize⟩, hcram⟩, hcramSize⟩, hcount⟩

/-- Replacing the mapper concerns the mapper's part alone. -/
theorem Cartridge.Valid.setMapper {c : Cartridge} (h : c.Valid) {m : Mapper} (hm : m.Valid) :
    Cartridge.Valid { c with mapper := m } :=
  ⟨h.banks, h.prg, h.chr, hm⟩

-- The state

/-- The part of the invariant that is not about the CPU. -/
structure State.OutsideValid (s : State) : Prop where
  ram : s.ram.Fits 0x800
  dma : s.dma.inv = true
  ppu : s.ppu.Valid
  cart : s.cart.Valid
  params : s.params.inv = true

/-- The invariant is the CPU's part and the part outside it. -/
theorem State.inv_iff (s : State) : s.inv = true ↔ s.cpu.inv = true ∧ s.OutsideValid := by
  simp only [State.inv, Bool.and_eq_true]
  constructor
  · rintro ⟨⟨⟨⟨⟨⟨⟨hcpu, hram⟩, hramSize⟩, hdma⟩, hppu⟩, hwf⟩, hmapper⟩, hparams⟩
    exact ⟨hcpu, ⟨hram, hramSize⟩, hdma, (Ppu.inv_iff _).mp hppu,
      (Cartridge.wf_and_inv_iff _).mp ⟨hwf, hmapper⟩, hparams⟩
  · rintro ⟨hcpu, ⟨hram, hramSize⟩, hdma, hppu, hcart, hparams⟩
    obtain ⟨hwf, hmapper⟩ := (Cartridge.wf_and_inv_iff _).mpr hcart
    exact ⟨⟨⟨⟨⟨⟨⟨hcpu, hram⟩, hramSize⟩, hdma⟩, (Ppu.inv_iff _).mpr hppu⟩, hwf⟩, hmapper⟩, hparams⟩

theorem Cpu.inv_iff (c : Cpu) : c.inv = true ↔ getFlag .u c.p = true ∧ c.cycles.toNat ≤ 8 := by
  simp [Cpu.inv]

section
variable {s : State} (h : s.OutsideValid)
include h

theorem State.OutsideValid.setRam {m : Memory} (hm : m.Fits 0x800) : (s.setRam m).OutsideValid := { h with ram := hm }

theorem State.OutsideValid.setDma {d : Dma} (hd : d.inv = true) : (s.setDma d).OutsideValid := { h with dma := hd }

theorem State.OutsideValid.setPpu {p : Ppu} (hp : p.Valid) : (s.setPpu p).OutsideValid := { h with ppu := hp }

theorem State.OutsideValid.setCart {c : Cartridge} (hc : c.Valid) : (s.setCart c).OutsideValid := { h with cart := hc }

theorem State.OutsideValid.setMapper {m : Mapper} (hm : m.Valid) : (s.setMapper m).OutsideValid :=
  h.setCart (h.cart.setMapper hm)

/-- Bus reads and changes of the CPU keep the part of the invariant outside the CPU. -/
theorem State.OutsideValid.afterReads {t : State} (ht : AfterReads s t) : t.OutsideValid := by
  unfold AfterReads at ht
  rw [ht]
  exact { h with ppu := { h.ppu with } }

end

-- What keeps the mapper's part

@[simp] theorem SerialMapper.write_cram (m : SerialMapper) (a : Word) (v : Byte) : (m.write a v).cram = m.cram := by
  unfold SerialMapper.write
  split
  · rfl
  · dsimp only
    split
    · split <;> rfl
    · rfl

/-- The fifth write of variant 1 empties the loader, so its count stays at most 4 (R163). -/
theorem SerialMapper.write_loadCount {m : SerialMapper} (h : m.loadCount ≤ 4) (a : Word) (v : Byte) :
    (m.write a v).loadCount ≤ 4 := by
  unfold SerialMapper.write
  split
  · exact Nat.zero_le 4
  · dsimp only
    split
    · split <;> exact Nat.zero_le 4
    · dsimp only
      omega

@[simp] theorem TargetMapper.write_cram (m : TargetMapper) (a : Word) (v : Byte) : (m.write a v).cram = m.cram := by
  have hTarget : (m.writeTarget v).cram = m.cram := by
    unfold TargetMapper.writeTarget
    split <;> rfl
  unfold TargetMapper.write
  split
  case h_2 => exact hTarget
  all_goals rfl

/-- A write to the cartridge keeps the mapper's part, whichever variant takes it. -/
theorem cpuMapWrite_valid {c : Cartridge} (h : c.mapper.Valid) (a : Word) (v : Byte) : (cpuMapWrite c a v).2.Valid := by
  have hBound : a.toNat % 0x2000 < 0x2000 := Nat.mod_lt _ (by decide)
  have hNone : Memory.Fits 0x2000 [] := ⟨rfl, rfl⟩
  obtain ⟨hcram, hcount⟩ := h
  unfold cpuMapWrite
  split
  · cases hm : c.mapper with
    | serial m =>
      simp only [hm, Mapper.inv, decide_eq_true_eq] at hcount
      rw [hm] at hcram
      refine ⟨?_, decide_eq_true (SerialMapper.write_loadCount hcount a v)⟩
      simpa [Mapper.cram] using hcram
    | target m =>
      rw [hm] at hcram
      exact ⟨by simpa [Mapper.cram] using hcram, rfl⟩
    | _ => exact ⟨hNone, rfl⟩
  · split
    · cases hm : c.mapper with
      | serial m =>
        rw [hm] at hcram hcount
        exact ⟨hcram.write hBound v, hcount⟩
      | target m =>
        rw [hm] at hcram
        exact ⟨hcram.write hBound v, rfl⟩
      | _ => exact ⟨hNone, rfl⟩
    · exact ⟨hcram, hcount⟩

theorem Mapper.Valid.irqClear {m : Mapper} (h : m.Valid) : m.irqClear.Valid := by
  cases m <;> exact ⟨h.cram, h.count⟩

theorem Mapper.Valid.scanline {m : Mapper} (h : m.Valid) : m.scanline.Valid := by
  cases m <;> exact ⟨h.cram, h.count⟩

@[simp] theorem Mapper.irqState_irqClear (m : Mapper) : m.irqClear.irqState = false := by
  cases m <;> rfl

-- What keeps the part outside the CPU

/-- An address of the palette is an index of its 32 bytes (R115). -/
theorem palIndex_lt (a : Nat) : palIndex a < 32 := by
  unfold palIndex
  split <;> omega

/-- A write of the PPU bus keeps the part outside the CPU: it lands in character RAM, which then has the size of one
bank, or in a memory of the PPU at an index below its size. -/
theorem State.OutsideValid.ppuWrite {s : State} (h : s.OutsideValid) (a : Word) (v : Byte) :
    (ppuWrite a v s).OutsideValid := by
  have hPt : a.toNat % 0x4000 % 0x1000 < 0x1000 := Nat.mod_lt _ (by decide)
  have hNt : a.toNat % 0x4000 % 0x400 < 0x400 := Nat.mod_lt _ (by decide)
  unfold Machine.ppuWrite cartPpuWrite ppuMapWrite
  by_cases hChr : a.toNat % 0x4000 < 0x2000 ∧ s.cart.chrBanks = 0
  · have hSize : a.toNat % 0x4000 < s.cart.chrSize := by
      simp only [Cartridge.chrSize]
      omega
    simp only [if_pos hChr]
    exact h.setCart { h.cart with chr := h.cart.chr.write hSize v }
  · simp only [if_neg hChr]
    split
    · refine h.setPpu ?_
      unfold Ppu.ptWrite
      split
      · exact { h.ppu with pt1 := h.ppu.pt1.write hPt v }
      · exact { h.ppu with pt0 := h.ppu.pt0.write hPt v }
    · split
      · refine h.setPpu ?_
        unfold Ppu.ntWrite
        split
        · exact { h.ppu with nt1 := h.ppu.nt1.write hNt v }
        · exact { h.ppu with nt0 := h.ppu.nt0.write hNt v }
      · exact h.setPpu { h.ppu with pal := h.ppu.pal.write (palIndex_lt _) v }

/-- A byte of OAM written by the CPU or the DMA engine is one of its 256. -/
theorem Ppu.Valid.writeOam {p : Ppu} (h : p.Valid) (a v : Byte) :
    Ppu.Valid { p with oam := p.oam.write a.toNat v } :=
  { h with oam := h.oam.write a.isLt v }

theorem State.OutsideValid.ppuPortWrite {s : State} (h : s.OutsideValid) (port : BitVec 3) (d : Byte) :
    (ppuPortWrite port d s).OutsideValid := by
  have hScroll : (s.ppu.writeScroll d).Valid := by
    unfold Ppu.writeScroll
    split <;> exact { h.ppu with }
  have hAddr : (s.ppu.writeAddr d).Valid := by
    unfold Ppu.writeAddr
    split <;> exact { h.ppu with }
  have hData := h.ppuWrite (s.ppu.v.setWidth 16) d
  unfold Machine.ppuPortWrite
  split
  · exact h.setPpu { h.ppu with }
  · exact h.setPpu { h.ppu with }
  · exact h
  · exact h.setPpu { h.ppu with }
  · exact h.setPpu { h.ppu.writeOam s.ppu.oamAddr d with }
  · exact h.setPpu hScroll
  · exact h.setPpu hAddr
  · exact hData.setPpu { hData.ppu with }

/-- Arming the DMA puts a transfer in progress with its cursor at 0 (R89). -/
theorem State.OutsideValid.dmaArm {s : State} (h : s.OutsideValid) (v : Byte) : (dmaArm v s).OutsideValid :=
  h.setDma (by simp [Dma.inv])

theorem State.OutsideValid.fixedWrite {s : State} (h : s.OutsideValid) (a : Word) (v : Byte) :
    (fixedWrite a v s).OutsideValid := by
  have hRam : a.toNat % 0x800 < 0x800 := Nat.mod_lt _ (by decide)
  unfold Machine.fixedWrite
  split
  · exact h.setRam (h.ram.write hRam v)
  · split
    · exact h.ppuPortWrite _ v
    · split
      · exact h.dmaArm v
      · split
        · exact { h with }
        · split
          · exact { h with }
          · exact h

/-- A bus write keeps the part of the invariant outside the CPU. -/
theorem State.OutsideValid.memWrite {s : State} (h : s.OutsideValid) (a : Word) (v : Byte) :
    (memWrite a v s).OutsideValid := by
  have hm : (s.setMapper (cpuMapWrite s.cart a v).2).OutsideValid := h.setMapper (cpuMapWrite_valid h.cart.mapper a v)
  unfold Machine.memWrite cartCpuWrite
  cases (cpuMapWrite s.cart a v).1 with
  | claimed => exact hm
  | unclaimed => exact hm.fixedWrite a v

end Sys2Proof.Machine
end

section
/-! SUPPORT. What the meaning of an instruction can do, said once: it is a path of bus reads, bus writes and changes of
the CPU, and it ends by setting the counter. -/
namespace Sys2Proof.Machine

theorem AfterReads.params {s t : State} (h : AfterReads s t) : t.params = s.params := by
  unfold AfterReads at h
  rw [h]

/-- `t` is reached from `s` by bus reads and changes of the CPU, in any order with bus writes. -/
inductive BusPath (s : State) : State → Prop where
  | refl : BusPath s s
  | reads {u t : State} : BusPath s u → AfterReads u t → BusPath s t
  | write {u : State} (a : Word) (v : Byte) : BusPath s u → BusPath s (memWrite a v u)

section
variable {s u : State}

theorem BusPath.of_reads (h : AfterReads s u) : BusPath s u := .reads .refl h

/-- A path goes on with a change of the CPU. -/
theorem BusPath.setCpu (h : BusPath s u) (c : Cpu) : BusPath s (u.setCpu c) := h.reads (AfterReads.of_cpu u c)

theorem BusPath.trans {t : State} (h : BusPath s u) (k : BusPath u t) : BusPath s t := by
  induction k with
  | refl => exact h
  | reads _ hr ih => exact ih.reads hr
  | write a v _ ih => exact ih.write a v

theorem BusPath.setZN (h : BusPath s u) (v : Byte) : BusPath s (setZN v u) := (h.setCpu _).setCpu _

theorem BusPath.addWithCarry (h : BusPath s u) (m : Byte) : BusPath s (addWithCarry m u) :=
  (((h.setCpu _).setCpu _).setZN _).setCpu _

theorem BusPath.compareFlags (h : BusPath s u) (r m : Byte) : BusPath s (compareFlags r m u) :=
  ((h.setCpu _).setCpu _).setCpu _

theorem BusPath.bitTestFlags (h : BusPath s u) (m : Byte) : BusPath s (bitTestFlags m u) :=
  ((h.setCpu _).setCpu _).setCpu _

theorem BusPath.push (h : BusPath s u) (v : Byte) : BusPath s (push v u) := (h.write _ v).setCpu _

theorem BusPath.pull (h : BusPath s u) : BusPath s (pull u).2 := (h.setCpu _).reads (memRead_afterReads _ _).1

theorem BusPath.pushWord (h : BusPath s u) (w : Word) : BusPath s (pushWord w u) := (h.push _).push _

theorem BusPath.pullWord (h : BusPath s u) : BusPath s (pullWord u).2 := h.pull.pull

theorem BusPath.takeInterrupt (h : BusPath s u) (image : Byte) (vector : Word) :
    BusPath s (takeInterrupt image vector u) :=
  ((((h.pushWord _).push image).setCpu _).reads (memRead16_afterReads vector _).1).setCpu _

theorem BusPath.returnFromInterrupt (h : BusPath s u) : BusPath s (returnFromInterrupt u) :=
  (h.pull.setCpu _).pullWord.setCpu _

theorem BusPath.hardwareInterrupt (h : BusPath s u) (vector : Word) (cost : Byte) :
    BusPath s (hardwareInterrupt vector cost u) :=
  ((((h.setCpu _).setCpu _).takeInterrupt _ vector).setCpu _).setCpu _

/-- The accumulator form of a write-back changes the CPU alone, any other writes the bus once (R251). -/
theorem BusPath.writeBack (h : BusPath s u) (o : Operand) (r : Byte) : BusPath s (writeBack o r u) := by
  cases o with
  | imp => exact h.setCpu _
  | _ => exact h.write _ r

/-- The part of the invariant outside the CPU holds along a path. -/
theorem BusPath.outsideValid (h : BusPath s u) (hs : s.OutsideValid) : u.OutsideValid := by
  induction h with
  | refl => exact hs
  | reads _ hr ih => exact ih.afterReads hr
  | write a v _ ih => exact ih.memWrite a v

end

/-- `t` has the clock, the parameters and the host's inputs of `s`, and its pixel: no access of either bus writes
these. -/
structure HostPartKept (s t : State) : Prop where
  clock : t.clock = s.clock
  params : t.params = s.params
  controller0 : t.controller0 = s.controller0
  controller1 : t.controller1 = s.controller1
  renderEnable : t.renderEnable = s.renderEnable
  sink : t.sink = s.sink

theorem HostPartKept.trans {s u t : State} (h : HostPartKept s u) (k : HostPartKept u t) : HostPartKept s t :=
  ⟨k.clock.trans h.clock, k.params.trans h.params, k.controller0.trans h.controller0,
    k.controller1.trans h.controller1, k.renderEnable.trans h.renderEnable, k.sink.trans h.sink⟩

theorem AfterReads.hostPartKept {s t : State} (h : AfterReads s t) : HostPartKept s t := by
  unfold AfterReads at h
  rw [h]
  exact ⟨rfl, rfl, rfl, rfl, rfl, rfl⟩

theorem ppuWrite_hostPartKept (a : Word) (v : Byte) (s : State) : HostPartKept s (ppuWrite a v s) := by
  unfold ppuWrite cartPpuWrite
  dsimp only
  cases ppuMapWrite s.cart (a.toNat % 0x4000) with
  | some o => exact ⟨rfl, rfl, rfl, rfl, rfl, rfl⟩
  | none =>
    dsimp only
    split
    · exact ⟨rfl, rfl, rfl, rfl, rfl, rfl⟩
    · split <;> exact ⟨rfl, rfl, rfl, rfl, rfl, rfl⟩

theorem ppuPortWrite_hostPartKept (port : BitVec 3) (d : Byte) (s : State) :
    HostPartKept s (ppuPortWrite port d s) := by
  have hData := ppuWrite_hostPartKept (s.ppu.v.setWidth 16) d s
  unfold ppuPortWrite
  split
  case h_8 => exact { hData with }
  all_goals exact ⟨rfl, rfl, rfl, rfl, rfl, rfl⟩

theorem fixedWrite_hostPartKept (a : Word) (v : Byte) (s : State) : HostPartKept s (fixedWrite a v s) := by
  unfold fixedWrite
  split
  · exact ⟨rfl, rfl, rfl, rfl, rfl, rfl⟩
  · split
    · exact ppuPortWrite_hostPartKept _ v s
    · split
      · exact ⟨rfl, rfl, rfl, rfl, rfl, rfl⟩
      · split
        · exact ⟨rfl, rfl, rfl, rfl, rfl, rfl⟩
        · split <;> exact ⟨rfl, rfl, rfl, rfl, rfl, rfl⟩

theorem memWrite_hostPartKept (a : Word) (v : Byte) (s : State) : HostPartKept s (memWrite a v s) := by
  have hm : HostPartKept s (s.setMapper (cpuMapWrite s.cart a v).2) := ⟨rfl, rfl, rfl, rfl, rfl, rfl⟩
  unfold memWrite cartCpuWrite
  cases (cpuMapWrite s.cart a v).1 with
  | claimed => exact hm
  | unclaimed => exact hm.trans (fixedWrite_hostPartKept a v _)

theorem BusPath.hostPartKept {s u : State} (h : BusPath s u) : HostPartKept s u := by
  induction h with
  | refl => exact ⟨rfl, rfl, rfl, rfl, rfl, rfl⟩
  | reads _ hr ih => exact ih.trans hr.hostPartKept
  | write a v _ ih => exact ih.trans (memWrite_hostPartKept a v _)

-- The documented instructions

/-- The most cycles an operation adds to its base: 2 for a taken branch to another page (R344), 1 for an index that
crosses a page (R255). -/
def maxExtra : Op → Nat
  | .bcc | .bcs | .beq | .bne | .bmi | .bpl | .bvc | .bvs => 2
  | _ => 1

/-- The instruction `i` ends from `s` as its operation does, at the end of a path, with no more extra cycles than the
operation can have. -/
def EndsOnPath (i : Instr) (s : State) : Prop :=
  ∃ (crossed oExtra : Bool) (bExtra : Nat) (u : State),
    exec i s = complete i.op i.operand crossed oExtra bExtra u ∧
      (crossed && oExtra).toNat + bExtra ≤ maxExtra i.op ∧ BusPath s u

theorem one_le_maxExtra (op : Op) : 1 ≤ maxExtra op := by cases op <;> decide

theorem EndsOnPath.intro {i : Instr} {s u : State} {crossed oExtra : Bool}
    (hEnd : exec i s = complete i.op i.operand crossed oExtra 0 u) (hPath : BusPath s u) : EndsOnPath i s :=
  ⟨crossed, oExtra, 0, u, hEnd, (Bool.toNat_le _).trans (one_le_maxExtra i.op), hPath⟩

/-- A branch ends from what its mode function leaves, and writes PC alone (R344). -/
theorem EndsOnPath.of_branch {i : Instr} {s : State} {crossed cond : Bool} (hMax : maxExtra i.op = 2)
    (hEnd : exec i s = branch i.op i.operand crossed cond (applyMode i.operand s).state) : EndsOnPath i s := by
  have hPath := BusPath.of_reads (applyMode_frame i.operand s).1
  cases cond with
  | false => exact .intro hEnd hPath
  | true =>
    refine ⟨crossed, false, _, _, hEnd, ?_, hPath.setCpu _⟩
    rw [hMax, Bool.and_false]
    unfold takenExtra
    split <;> decide

/-- What a documented instruction does, from every state and with every operand. -/
theorem exec_endsOnPath {i : Instr} (hi : i.op ≠ .xxx) (s : State) : EndsOnPath i s := by
  have hMode := fun o : Operand => BusPath.of_reads (applyMode_frame o s).1
  have hRead := fun o : Operand => BusPath.of_reads (readOperand_frame o s).1
  have hImp : BusPath s (implied s) := hMode .imp
  cases i with
  | lda o | ldx o | ldy o | and o | ora o | eor o => exact .intro rfl (((hRead o).setCpu _).setZN _)
  | adc o | sbc o => exact .intro rfl ((hRead o).addWithCarry _)
  | bit o => exact .intro rfl ((hRead o).bitTestFlags _)
  | cmp o | cpx o | cpy o => exact .intro rfl ((hRead o).compareFlags _ _)
  | sta o | stx o | sty o => exact .intro rfl ((hMode o).write _ _)
  | inc o | dec o => exact .intro rfl (((hRead o).write _ _).setZN _)
  | asl o | lsr o | rol o | ror o => exact .intro rfl ((((hRead o).setCpu _).setZN _).writeBack o _)
  | jmp o => exact .intro rfl ((hMode o).setCpu _)
  | jsr o => exact .intro rfl ((((hMode o).setCpu _).pushWord _).setCpu _)
  | bcc o | bcs o | beq o | bne o | bmi o | bpl o | bvc o | bvs o => exact .of_branch rfl rfl
  | tax | tay | txa | tya | tsx | inx | iny | dex | dey => exact .intro rfl ((hImp.setCpu _).setZN _)
  | txs | clc | sec | cli | sei | cld | sed | clv => exact .intro rfl (hImp.setCpu _)
  | nop => exact .intro rfl hImp
  | pha | php => exact .intro rfl (hImp.push _)
  | pla => exact .intro rfl ((hImp.pull.setCpu _).setZN _)
  | plp => exact .intro rfl (hImp.pull.setCpu _)
  | rts => exact .intro rfl (hImp.pullWord.setCpu _)
  | brk => exact .intro rfl ((hImp.setCpu _).takeInterrupt _ _)
  | rti => exact .intro rfl hImp.returnFromInterrupt
  | xxx b o => exact absurd rfl hi

end Sys2Proof.Machine
end

section
/-! SUPPORT. What the decoder answers is well-formed, and the counter after an instruction it answers is 1 to 8
(`10_state.md` R29, `40_addressing_modes.md` R255). -/
namespace Sys2Proof.Machine

-- The opcode table

theorem tableEntry_mem (b : Byte) : tableEntry b ∈ opcodeTable := by
  have hLength : opcodeTable.length = 256 := by decide +kernel
  have hIndex : b.toNat < opcodeTable.length := hLength ▸ b.isLt
  unfold tableEntry
  rw [List.getD_eq_getElem _ _ hIndex]
  exact List.getElem_mem hIndex

/-- The base cycles of every entry are 2 to 8 (R208, R209). -/
theorem opcodeTable_base : (opcodeTable.all fun e => decide (2 ≤ e.base ∧ e.base ≤ 8)) = true := by decide +kernel

/-- Every documented entry of the matrix has a mode of its operation in the opcode lists (R206, R209). -/
theorem opcodeTable_modeAllowed :
    (opcodeTable.all fun e =>
      decide (e.op = .xxx) || (e.op.instr 0 (Operand.ofBytes e.mode 0 0)).modeAllowed) = true := by decide +kernel

/-- The opcode lists give every documented operation in its modes a base that leaves room for its extra cycles. -/
theorem opcodes_cost (op : Op) :
    (op.opcodes.all fun e => decide (1 ≤ (tableEntry e.2).base ∧ (tableEntry e.2).base + maxExtra op ≤ 8)) = true := by
  cases op <;> decide

-- The decoder

@[simp] theorem mode_ofBytes (m : Mode) (b1 b2 : Byte) : (Operand.ofBytes m b1 b2).mode = m := by
  cases m <;> rfl

@[simp] theorem op_instr (op : Op) (b : Byte) (o : Operand) : (op.instr b o).op = op := by
  cases op <;> rfl

/-- The mode of a decoded instruction's operand does not depend on the bytes. -/
theorem operand_mode_instr (op : Op) (b b' : Byte) {o o' : Operand} (h : o.mode = o'.mode) :
    (op.instr b o).operand.mode = (op.instr b' o').operand.mode := by
  cases op <;> simp [Op.instr, Instr.operand, h]

theorem modeAllowed_instr (op : Op) (b b' : Byte) {o o' : Operand} (h : o.mode = o'.mode) :
    (op.instr b o).modeAllowed = (op.instr b' o').modeAllowed := by
  unfold Instr.modeAllowed
  rw [op_instr, op_instr, operand_mode_instr op b b' h]

/-- A documented opcode byte decodes to an instruction that has an opcode. -/
theorem decodeBytes_modeAllowed {p : Params} {b : Byte} (hb : (p.entry b).op ≠ .xxx) (b1 b2 : Byte) :
    (decodeBytes p b b1 b2).modeAllowed = true := by
  have hOp : (tableEntry b).op ≠ .xxx := Laws.EncodedLength.entry_op p b ▸ hb
  have hEntry := List.all_eq_true.mp opcodeTable_modeAllowed _ (tableEntry_mem b)
  rw [decide_eq_false hOp, Bool.false_or] at hEntry
  unfold decodeBytes
  rw [Laws.EncodedLength.entry_documented hOp,
    modeAllowed_instr _ b 0 (o' := Operand.ofBytes (tableEntry b).mode 0 0) (by simp)]
  exact hEntry

/-- The instruction of an undocumented opcode byte. -/
theorem decodeBytes_undocumented {p : Params} {b : Byte} (hb : (p.entry b).op = .xxx) (b1 b2 : Byte) :
    decodeBytes p b b1 b2 = .xxx b (Operand.ofBytes (p.entry b).mode b1 b2) := by
  unfold decodeBytes
  rw [hb]
  rfl

-- The costs

/-- The base cycles of an operation in a mode it has an opcode for leave room for its extra cycles. -/
theorem baseCycles_bounds {op : Op} {m : Mode} (h : (op.opcode m).isSome = true) :
    1 ≤ baseCycles op m ∧ baseCycles op m + maxExtra op ≤ 8 := by
  obtain ⟨b, hb⟩ := Option.isSome_iff_exists.mp h
  have hCost := List.all_eq_true.mp (opcodes_cost op) _ (Laws.EncodedLength.lookup_mem hb)
  unfold baseCycles
  rw [hb]
  exact of_decide_eq_true hCost

/-- The base cycles of every opcode are 1 to 8 under parameters of the invariant. -/
theorem entry_base_bounds {p : Params} (hp : p.inv = true) (b : Byte) :
    1 ≤ (p.entry b).base ∧ (p.entry b).base ≤ 8 := by
  have hTable := of_decide_eq_true (List.all_eq_true.mp opcodeTable_base _ (tableEntry_mem b))
  unfold Params.entry
  dsimp only
  split
  · cases hLookup : p.undefCycles.lookup b with
    | none =>
      simp only [Option.getD_none]
      omega
    | some n =>
      obtain ⟨l₁, l₂, hl, -⟩ := List.lookup_eq_some_iff.mp hLookup
      have hMem : (b, n) ∈ p.undefCycles := by simp [hl]
      exact of_decide_eq_true (List.all_eq_true.mp hp _ hMem)
  · omega

-- The ends of instructions

theorem setCycles_toNat {n : Nat} (h : n ≤ 8) (s : State) : (s.setCycles (BitVec.ofNat 8 n)).cpu.cycles.toNat = n := by
  simp only [State.setCycles_cpu, BitVec.toNat_ofNat]
  omega

theorem op_eq_xxx {i : Instr} (h : i.op = .xxx) : ∃ (b : Byte) (o : Operand), i = .xxx b o := by
  cases i <;> simp_all [Instr.op]

/-- Every instruction is a path of bus reads, bus writes and changes of the CPU. -/
theorem exec_busPath {i : Instr} {s t : State} (h : exec i s = .next t) : BusPath s t := by
  by_cases hi : i.op = .xxx
  · obtain ⟨b, o, rfl⟩ := op_eq_xxx hi
    obtain rfl := Host.Outcome.next.inj h
    exact (BusPath.of_reads (applyMode_frame o s).1).setCpu _
  · obtain ⟨crossed, oExtra, bExtra, u, hEnd, -, hPath⟩ := exec_endsOnPath hi s
    rw [hEnd, complete_eq] at h
    obtain rfl := Host.Outcome.next.inj h
    exact hPath.setCpu _

/-- A decoded instruction leaves the counter at 1 to 8, under parameters of the invariant. -/
theorem exec_decodeBytes_cycles {s t : State} (hp : s.params.inv = true) {b b1 b2 : Byte}
    (h : exec (decodeBytes s.params b b1 b2) s = .next t) : 1 ≤ t.cpu.cycles.toNat ∧ t.cpu.cycles.toNat ≤ 8 := by
  by_cases hb : (s.params.entry b).op = .xxx
  · have hBase := entry_base_bounds hp b
    rw [decodeBytes_undocumented hb] at h
    obtain rfl := Host.Outcome.next.inj h
    simp only [setCost, Bool.and_false, Bool.toNat_false, Nat.add_zero]
    rwa [setCycles_toNat hBase.2]
  · have hi : (decodeBytes s.params b b1 b2).op ≠ .xxx := by simpa [decodeBytes] using hb
    obtain ⟨crossed, oExtra, bExtra, u, hEnd, hExtra, -⟩ := exec_endsOnPath hi s
    have hBase := baseCycles_bounds (decodeBytes_modeAllowed hb b1 b2)
    rw [hEnd, complete_eq] at h
    obtain rfl := Host.Outcome.next.inj h
    rw [setCycles_toNat (by omega)]
    omega

end Sys2Proof.Machine
end

section
/-! SUPPORT. What the PPU's clock can do, said once: each of its steps is work of the PPU alone and keeps the PPU's
ranges and sizes (`50_ppu.md` R420 to R463). -/
namespace Sys2Proof.Machine

/-- From `s` to `t` nothing is written but the PPU, the pixel and the count of free values, and the PPU's ranges and
sizes are kept. -/
structure PpuWork (s t : State) : Prop where
  frame : t = { s with ppu := t.ppu, sink := t.sink, freeIndex := t.freeIndex }
  valid : s.ppu.Valid → t.ppu.Valid

section
variable {s u : State}

theorem PpuWork.refl (s : State) : PpuWork s s := ⟨rfl, id⟩

theorem PpuWork.trans {t : State} (h : PpuWork s u) (k : PpuWork u t) : PpuWork s t :=
  ⟨by rw [k.frame, h.frame], k.valid ∘ h.valid⟩

theorem PpuWork.setPpu (h : PpuWork s u) {p : Ppu} (hp : u.ppu.Valid → p.Valid) : PpuWork s (u.setPpu p) :=
  h.trans ⟨rfl, hp⟩

theorem PpuWork.mapPpu (h : PpuWork s u) {f : Ppu → Ppu} (hf : ∀ p : Ppu, p.Valid → (f p).Valid) :
    PpuWork s (u.mapPpu f) :=
  h.setPpu (hf u.ppu)

theorem PpuWork.setSink (h : PpuWork s u) (x : Option Pixel) : PpuWork s (u.setSink x) := h.trans ⟨rfl, id⟩

theorem PpuWork.ppuRead (h : PpuWork s u) (a : Word) : PpuWork s (ppuRead a u).2 := by
  refine h.trans ⟨?_, ?_⟩
  · rw [ppuRead_state]
  · rw [ppuRead_state]
    exact id

end

-- The steps of the PPU alone

section
variable {p : Ppu} (h : p.Valid)
include h

theorem oddFrameSkip_valid : (oddFrameSkip p).Valid := by
  unfold oddFrameSkip
  split
  · exact { h with cycle := (by decide : 1 ≤ 340) }
  · exact h

theorem preRenderClear_valid : (preRenderClear p).Valid := by
  unfold preRenderClear
  split
  · exact { h with sprCount := Nat.zero_le 8, slots := (List.length_map _).trans h.slots }
  · exact h

theorem shiftBackground_valid : (shiftBackground p).Valid := by
  unfold shiftBackground
  split
  · exact { h with }
  · exact h

omit h in
@[simp] theorem length_onFirst (n : Nat) (f : Slot → Slot) (l : List Slot) : (onFirst n f l).length = l.length := by
  induction l generalizing n with
  | nil => simp only [onFirst]
  | cons x l ih =>
    cases n with
    | zero => rfl
    | succ k => simp [onFirst, ih]

theorem shiftSprites_valid : (shiftSprites p).Valid := by
  unfold shiftSprites
  split
  · exact { h with slots := (length_onFirst _ _ _).trans h.slots }
  · exact h

theorem loadBgShifters_valid : (loadBgShifters p).Valid := { h with }

/-- The scroll increments and transfers write `v` alone, and only while rendering is enabled (R408). -/
theorem whenRendering_valid (w : BitVec 15) : (if p.rendering then { p with v := w } else p).Valid := by
  split
  · exact { h with }
  · exact h

theorem atCycle256_valid : (atCycle256 p).Valid := by
  unfold atCycle256
  split
  · exact whenRendering_valid h _
  · exact h

theorem atCycle257_valid : (atCycle257 p).Valid := by
  unfold atCycle257
  split
  · exact whenRendering_valid (loadBgShifters_valid h) _
  · exact h

theorem preRenderTransferY_valid : (preRenderTransferY p).Valid := by
  unfold preRenderTransferY
  split
  · exact whenRendering_valid h _
  · exact h

/-- At most eight entries are chosen, and empty slots make up the rest (R440, R441). -/
theorem evaluateSprites_valid (offset : Nat) : (evaluateSprites offset p).Valid := by
  have hCount : ((qualifying offset p).take 8).length ≤ 8 := List.length_take_le _ _
  refine { h with sprCount := hCount, slots := ?_ }
  simp only [evaluateSprites, List.length_append, List.length_map, List.length_replicate]
  omega

theorem setVBlank_valid : (setVBlank p).Valid := by
  unfold setVBlank
  split
  · exact { h with }
  · exact h

/-- The position stays on the raster: cycle 340 is followed by cycle 0 and scanline 260 by -1 (R463). -/
theorem advance_valid : (advance p).Valid := by
  obtain ⟨hFirst, hLast⟩ := h.scanline
  unfold advance
  split
  case isTrue hc => exact { h with cycle := hc }
  case isFalse =>
    split
    case isTrue hs => exact { h with cycle := Nat.zero_le 340, scanline := ⟨by dsimp only; omega, hs⟩ }
    case isFalse => exact { h with cycle := Nat.zero_le 340, scanline := ⟨le_rfl, (by decide : (-1 : Int) ≤ 260)⟩ }

end

-- The steps that read the PPU bus

section
variable {s u : State}

theorem PpuWork.fetchTileId (h : PpuWork s u) : PpuWork s (fetchTileId u) :=
  (h.ppuRead _).setPpu fun hp => { hp with }

theorem PpuWork.fetchPhase (h : PpuWork s u) (k : Nat) : PpuWork s (fetchPhase k u) := by
  unfold Machine.fetchPhase
  split
  · exact (h.mapPpu fun _ => loadBgShifters_valid).fetchTileId
  · exact (h.ppuRead _).setPpu fun hp => { hp with }
  · exact (h.ppuRead _).setPpu fun hp => { hp with }
  · exact (h.ppuRead _).setPpu fun hp => { hp with }
  · exact h.mapPpu fun _ hp => whenRendering_valid hp _
  · exact h

theorem PpuWork.pipelineStep (h : PpuWork s u) : PpuWork s (pipelineStep u) := by
  unfold Machine.pipelineStep
  split
  · exact ((h.mapPpu fun _ => shiftBackground_valid).mapPpu fun _ => shiftSprites_valid).fetchPhase _
  · exact h

theorem PpuWork.primeTileId (h : PpuWork s u) : PpuWork s (primeTileId u) := by
  unfold Machine.primeTileId
  split
  · exact h.fetchTileId
  · exact h

theorem PpuWork.evaluateAt257 (h : PpuWork s u) : PpuWork s (evaluateAt257 u) := by
  unfold Machine.evaluateAt257
  split
  · exact h.mapPpu fun _ hp => evaluateSprites_valid hp _
  · exact h

/-- The pattern fetches read the PPU bus alone. -/
theorem PpuWork.fetchSlots (n : Nat) (l : List Slot) (h : PpuWork s u) : PpuWork s (fetchSlots n l u).2 := by
  induction l generalizing n u with
  | nil => cases n <;> exact h
  | cons x l ih =>
    cases n with
    | zero => exact h
    | succ k => exact ih k ((h.ppuRead _).ppuRead _)

@[simp] theorem length_fetchSlots (n : Nat) (l : List Slot) (s : State) :
    (fetchSlots n l s).1.length = l.length := by
  induction l generalizing n s with
  | nil => cases n <;> rfl
  | cons x l ih =>
    cases n with
    | zero => rfl
    | succ k => simp [Machine.fetchSlots, ih]

/-- The pattern fetches leave the PPU alone. -/
theorem fetchSlots_ppu (n : Nat) (l : List Slot) (s : State) : (fetchSlots n l s).2.ppu = s.ppu := by
  induction l generalizing n s with
  | nil => cases n <;> rfl
  | cons x l ih =>
    cases n with
    | zero => rfl
    | succ k =>
      simp only [Machine.fetchSlots, ih, fetchSlot]
      rw [ppuRead_state, ppuRead_state]

theorem PpuWork.fetchSpritePatterns (h : PpuWork s u) : PpuWork s (fetchSpritePatterns u) := by
  unfold Machine.fetchSpritePatterns
  split
  · refine (h.fetchSlots _ _).setPpu fun hp => { hp with slots := (length_fetchSlots _ _ _).trans ?_ }
    rw [← fetchSlots_ppu]
    exact hp.slots
  · exact h

theorem PpuWork.renderSteps (h : PpuWork s u) : PpuWork s (renderSteps u) := by
  have hStart := (h.mapPpu fun _ => oddFrameSkip_valid).mapPpu fun _ => preRenderClear_valid
  have hLine := (hStart.pipelineStep.mapPpu fun _ => atCycle256_valid).mapPpu fun _ => atCycle257_valid
  exact (hLine.primeTileId.mapPpu fun _ => preRenderTransferY_valid).evaluateAt257.fetchSpritePatterns

theorem PpuWork.composePixel (h : PpuWork s u) : PpuWork s (composePixel u) := by
  unfold Machine.composePixel
  split
  · dsimp only
    have hRead := h.ppuRead (0x3F00 + zext16 (resolvePixel u.ppu.bgPixel u.ppu.fgPixel))
    split
    · refine PpuWork.setSink (hRead.setPpu ?_) _
      exact fun hp => { hp with }
    · exact hRead.setPpu fun hp => { hp with }
  · exact h

end

-- The clock

/-- `PpuClock()` is work of the PPU, then the mapper's scanline tick, then the advance of the position (R420). -/
theorem ppuClock_eq (s : State) : ∃ u : State, PpuWork s u ∧ ppuClock s = (mapperTick u).mapPpu advance := by
  have hLine : PpuWork s (if s.ppu.renderLine then renderSteps s else s) := by
    split
    · exact (PpuWork.refl s).renderSteps
    · exact .refl s
  exact ⟨_, (hLine.mapPpu fun _ => setVBlank_valid).composePixel, rfl⟩

/-- The mapper's tick is a tick of its counter or nothing (R462). -/
theorem mapperTick_cases (s : State) : mapperTick s = s.setMapper s.cart.mapper.scanline ∨ mapperTick s = s := by
  unfold mapperTick
  split
  · exact .inl rfl
  · exact .inr rfl

/-- Outside the PPU its clock writes the mapper, the pixel and the count of free values alone. -/
theorem ppuClock_frame (s : State) :
    ppuClock s = { s with ppu := (ppuClock s).ppu, sink := (ppuClock s).sink, freeIndex := (ppuClock s).freeIndex,
                          cart := { s.cart with mapper := (ppuClock s).cart.mapper } } := by
  obtain ⟨u, hWork, hClock⟩ := ppuClock_eq s
  rw [hClock]
  rcases mapperTick_cases u with hTick | hTick <;> rw [hTick, hWork.frame] <;> rfl

/-- The PPU's clock keeps the part of the invariant outside the CPU. -/
theorem State.OutsideValid.ppuClock {s : State} (h : s.OutsideValid) : (ppuClock s).OutsideValid := by
  obtain ⟨u, hWork, hClock⟩ := ppuClock_eq s
  have hu : u.OutsideValid := by
    have hp := hWork.valid h.ppu
    rw [hWork.frame]
    exact { h with ppu := hp }
  rw [hClock]
  rcases mapperTick_cases u with hTick | hTick <;> rw [hTick]
  · exact (hu.setMapper hu.cart.mapper.scanline).setPpu (advance_valid hu.ppu)
  · exact hu.setPpu (advance_valid hu.ppu)

end Sys2Proof.Machine
end

section
/-! SUPPORT. What each part of a tick can do and what it keeps; with it, what every step keeps (`10_state.md` R27, R29,
R38, `51_bus_clock_dma.md` R481 to R492). -/
namespace Sys2Proof.Machine

theorem AfterReads.cart {s t : State} (h : AfterReads s t) : t.cart = s.cart := by
  unfold AfterReads at h
  rw [h]

theorem AfterReads.nmiPending {s t : State} (h : AfterReads s t) : t.ppu.nmiPending = s.ppu.nmiPending := by
  unfold AfterReads at h
  rw [h]

-- The parts of a tick, case by case

theorem thenDo_eq_next {f : State → State} {r : Result} {t : State} :
    thenDo f r = .next t ↔ ∃ u : State, r = .next u ∧ t = f u := by
  cases r <;> simp [thenDo, eq_comm]

/-- A CPU step counts down, or runs the decoded instruction between the fetch and the end of the fetch step (R230). -/
theorem cpuStep_cases {s t : State} (h : cpuStep s = .next t) :
    (s.cpu.cycles ≠ 0 ∧ t = s.setCycles (s.cpu.cycles - 1)) ∨
      ∃ u : State, exec (decodeBytes s.params (fetch s).opcode (fetch s).b1 (fetch s).b2) (fetch s).state = .next u ∧
        t = endFetchStep u := by
  unfold cpuStep at h
  split at h
  · exact .inr (thenDo_eq_next.mp h)
  · exact .inl ⟨by assumption, (Host.Outcome.next.inj h).symm⟩

/-- In a tick nobody acts, or the DMA engine does while a transfer is in progress, or the CPU does (R481, R485). -/
theorem slotStep_cases {s u w : State} (h : slotStep s u = .next w) :
    w = u ∨ (s.dma.transfer = true ∧ w = dmaStep u) ∨ cpuStep u = .next w := by
  unfold slotStep at h
  split at h
  · have hw := Host.Outcome.next.inj h
    split at hw
    · exact .inr (.inl ⟨by assumption, hw.symm⟩)
    · exact .inl hw.symm
  · split at h
    · exact .inr (.inr h)
    · exact .inl (Host.Outcome.next.inj h).symm

/-- A step is the PPU's clock, the CPU or DMA part, and the end of the tick (R481). -/
theorem step_cases {s t : State} (h : step s = .next t) :
    ∃ w : State, slotStep s (ppuClock (s.setSink none)) = .next w ∧ t = endTick w :=
  thenDo_eq_next.mp h

/-- A pending NMI is taken with the request cleared (R492). -/
theorem deliverNmi_cases (s : State) :
    (s.ppu.nmiPending = false ∧ deliverNmi s = s) ∨
      deliverNmi s = hardwareInterrupt nmiVector 8 (s.setPpu { s.ppu with nmiPending := false }) := by
  unfold deliverNmi
  split
  · exact .inr rfl
  · exact .inl ⟨Bool.eq_false_of_not_eq_true (by assumption), rfl⟩

/-- The mapper's flag is cleared, and the interrupt taken where I permits it (R492, R524). -/
theorem deliverIrq_cases (s : State) :
    (s.cart.mapper.irqState = false ∧ deliverIrq s = s) ∨ deliverIrq s = s.setMapper s.cart.mapper.irqClear ∨
      deliverIrq s = hardwareInterrupt irqVector 7 (s.setMapper s.cart.mapper.irqClear) := by
  unfold deliverIrq irq
  split
  · split
    · exact .inr (.inl rfl)
    · exact .inr (.inr rfl)
  · exact .inl ⟨Bool.eq_false_of_not_eq_true (by assumption), rfl⟩

-- Interrupt entry

theorem AfterReads.setCpu {s t : State} (h : AfterReads s t) (c : Cpu) : AfterReads s (t.setCpu c) :=
  h.trans (AfterReads.of_cpu t c)

/-- The pushes of an interrupt entry write work RAM and SP alone. -/
theorem pushes_frame (image : Byte) (w : Word) (s : State) :
    AfterReads (s.setRam (push image (pushWord w s)).ram) (push image (pushWord w s)) := by
  simp only [pushWord, push_eq]
  rfl

/-- Besides work RAM an interrupt entry writes no more than bus reads and the CPU do. -/
theorem takeInterrupt_frame (image : Byte) (vector : Word) (s : State) :
    ∃ m : Memory, AfterReads (s.setRam m) (takeInterrupt image vector s) :=
  ⟨_, (((pushes_frame image s.cpu.pc s).setCpu _).trans (memRead16_afterReads vector _).1).setCpu _⟩

theorem hardwareInterrupt_frame (vector : Word) (cost : Byte) (s : State) :
    ∃ m : Memory, AfterReads (s.setRam m) (hardwareInterrupt vector cost s) := by
  let u := (s.setFlag .b false).setFlag .u true
  obtain ⟨m, hm⟩ := takeInterrupt_frame u.cpu.p vector u
  exact ⟨m, ((AfterReads.of_cpu (s.setRam m) u.cpu).trans hm).setCpu _ |>.setCpu _⟩

/-- Of P an interrupt entry writes I. -/
theorem takeInterrupt_p (image : Byte) (vector : Word) (s : State) :
    (takeInterrupt image vector s).cpu.p = putFlag .i true s.cpu.p := by
  simp [takeInterrupt, pushWord, push_eq, (memRead16_afterReads vector _).2]

/-- A hardware interrupt leaves U set, and the counter at its cost. -/
theorem hardwareInterrupt_cpu (vector : Word) (cost : Byte) (s : State) :
    getFlag .u (hardwareInterrupt vector cost s).cpu.p = true ∧ (hardwareInterrupt vector cost s).cpu.cycles = cost := by
  refine ⟨?_, rfl⟩
  simp [hardwareInterrupt, takeInterrupt_p, getFlag_putFlag_other]

-- What a CPU step does

theorem cpuStep_busPath {s t : State} (h : cpuStep s = .next t) : BusPath s t := by
  rcases cpuStep_cases h with ⟨-, rfl⟩ | ⟨u, hExec, rfl⟩
  · exact BusPath.refl.setCpu _
  · have hu := ((BusPath.of_reads (fetch_frame s)).trans (exec_busPath hExec)).setCpu
      { u.cpu with p := putFlag .u true u.cpu.p }
    unfold endFetchStep
    dsimp only
    split
    · exact hu.setCpu _
    · exact hu

/-- The end of a fetch step sets U, and takes at most one cycle off a counter of 1 to 8. -/
theorem endFetchStep_cpu_inv {s : State} (hMin : 1 ≤ s.cpu.cycles.toNat) (hMax : s.cpu.cycles.toNat ≤ 8) :
    (endFetchStep s).cpu.inv = true := by
  rw [Cpu.inv_iff]
  unfold endFetchStep
  dsimp only
  split
  · refine ⟨getFlag_putFlag_same _ _ _, ?_⟩
    simp only [State.setCycles_cpu, State.setFlag_cpu]
    bv_omega
  · exact ⟨getFlag_putFlag_same _ _ _, hMax⟩

-- The invariant through the parts of a tick

theorem cpuStep_inv {s t : State} (hs : s.inv = true) (h : cpuStep s = .next t) : t.inv = true := by
  obtain ⟨hCpu, hOut⟩ := s.inv_iff.mp hs
  refine t.inv_iff.mpr ⟨?_, (cpuStep_busPath h).outsideValid hOut⟩
  rcases cpuStep_cases h with ⟨hCycles, rfl⟩ | ⟨u, hExec, rfl⟩
  · obtain ⟨hU, hMax⟩ := s.cpu.inv_iff.mp hCpu
    refine (Cpu.inv_iff _).mpr ⟨hU, ?_⟩
    simp only [State.setCycles_cpu]
    bv_omega
  · have hFetch := fetch_frame s
    rw [← hFetch.params] at hExec
    obtain ⟨hMin, hMax⟩ := exec_decodeBytes_cycles (hOut.afterReads hFetch).params hExec
    exact endFetchStep_cpu_inv hMin hMax

theorem hardwareInterrupt_inv {s : State} (hs : s.OutsideValid) (vector : Word) {cost : Byte}
    (hCost : cost.toNat ≤ 8) :
    (hardwareInterrupt vector cost s).inv = true := by
  obtain ⟨hU, hCycles⟩ := hardwareInterrupt_cpu vector cost s
  exact (State.inv_iff _).mpr ⟨(Cpu.inv_iff _).mpr ⟨hU, hCycles ▸ hCost⟩,
    (BusPath.refl.hardwareInterrupt vector cost).outsideValid hs⟩

theorem deliverNmi_inv {s : State} (hs : s.inv = true) : (deliverNmi s).inv = true := by
  rcases deliverNmi_cases s with ⟨-, hNone⟩ | hTaken
  · rwa [hNone]
  · obtain ⟨-, hOut⟩ := s.inv_iff.mp hs
    have hClear : (s.setPpu { s.ppu with nmiPending := false }).OutsideValid := hOut.setPpu { hOut.ppu with }
    rw [hTaken]
    exact hardwareInterrupt_inv hClear _ (by decide)

theorem deliverIrq_inv {s : State} (hs : s.inv = true) : (deliverIrq s).inv = true := by
  obtain ⟨hCpu, hOut⟩ := s.inv_iff.mp hs
  have hClear := hOut.setMapper hOut.cart.mapper.irqClear
  rcases deliverIrq_cases s with ⟨-, hNone⟩ | hMasked | hTaken
  · rwa [hNone]
  · rw [hMasked]
    exact (State.inv_iff _).mpr ⟨hCpu, hClear⟩
  · rw [hTaken]
    exact hardwareInterrupt_inv hClear _ (by decide)

theorem endTick_inv {s : State} (hs : s.inv = true) : (endTick s).inv = true := deliverIrq_inv (deliverNmi_inv hs)

/-- A transfer that goes on is not idle, and one that ends leaves the cursor at 0 (R486, R490). -/
theorem Dma.afterWrite_inv {d : Dma} (h : d.inv = true) (hIdle : d.idle = false) : d.afterWrite.inv = true := by
  simp only [Dma.inv, hIdle, Bool.or_false, Bool.not_false, Bool.true_or, Bool.and_true] at h
  unfold Dma.afterWrite
  split
  · rfl
  · simp [Dma.inv, h, hIdle]

theorem dmaStep_cpu (s : State) : (dmaStep s).cpu = s.cpu := by
  unfold dmaStep
  split
  · split <;> rfl
  · split
    · exact (memRead_afterReads _ s).2
    · rfl

theorem dmaStep_clock (s : State) : (dmaStep s).clock = s.clock := by
  unfold dmaStep
  split
  · split <;> rfl
  · split
    · exact (memRead_afterReads _ s).1.hostPartKept.clock
    · rfl

/-- The DMA engine keeps the part outside the CPU while a transfer is in progress: it leaves the idle state only
then. -/
theorem State.OutsideValid.dmaStep {s : State} (h : s.OutsideValid) (hTransfer : s.dma.transfer = true) :
    (dmaStep s).OutsideValid := by
  unfold Machine.dmaStep
  split
  · split
    · exact h.setDma (by simp [Dma.inv, hTransfer])
    · exact h
  · split
    · have hRead := h.afterReads (memRead_afterReads (pair s.dma.page s.dma.addr) s).1
      exact hRead.setDma hRead.dma
    · exact (h.setPpu (h.ppu.writeOam s.dma.addr s.dma.data)).setDma
        (Dma.afterWrite_inv h.dma (Bool.eq_false_of_not_eq_true (by assumption)))

theorem slotStep_inv {s u w : State} (hu : u.inv = true) (hDma : u.dma = s.dma) (h : slotStep s u = .next w) :
    w.inv = true := by
  rcases slotStep_cases h with rfl | ⟨hTransfer, rfl⟩ | hStep
  · exact hu
  · obtain ⟨hCpu, hOut⟩ := u.inv_iff.mp hu
    exact (State.inv_iff _).mpr ⟨(dmaStep_cpu u).symm ▸ hCpu, hOut.dmaStep (hDma.symm ▸ hTransfer)⟩
  · exact cpuStep_inv hu hStep

theorem ppuClock_cpu (s : State) : (ppuClock s).cpu = s.cpu := by rw [ppuClock_frame]

theorem ppuClock_dma (s : State) : (ppuClock s).dma = s.dma := by rw [ppuClock_frame]

theorem ppuClock_clock (s : State) : (ppuClock s).clock = s.clock := by rw [ppuClock_frame]

theorem ppuClock_inv {s : State} (hs : s.inv = true) : (ppuClock s).inv = true := by
  obtain ⟨hCpu, hOut⟩ := s.inv_iff.mp hs
  exact (State.inv_iff _).mpr ⟨(ppuClock_cpu s).symm ▸ hCpu, hOut.ppuClock⟩

-- The clock and the interrupt requests through the end of a tick

theorem hardwareInterrupt_nmiPending (vector : Word) (cost : Byte) (s : State) :
    (hardwareInterrupt vector cost s).ppu.nmiPending = s.ppu.nmiPending := by
  obtain ⟨m, hm⟩ := hardwareInterrupt_frame vector cost s
  exact hm.nmiPending

theorem hardwareInterrupt_cart (vector : Word) (cost : Byte) (s : State) :
    (hardwareInterrupt vector cost s).cart = s.cart := by
  obtain ⟨m, hm⟩ := hardwareInterrupt_frame vector cost s
  exact hm.cart

theorem hardwareInterrupt_clock (vector : Word) (cost : Byte) (s : State) :
    (hardwareInterrupt vector cost s).clock = s.clock :=
  (BusPath.refl.hardwareInterrupt vector cost).hostPartKept.clock

/-- NMI delivery leaves no request pending, and the clock as it was. -/
theorem deliverNmi_clears (s : State) :
    (deliverNmi s).ppu.nmiPending = false ∧ (deliverNmi s).clock = s.clock := by
  rcases deliverNmi_cases s with ⟨hPending, hNone⟩ | hTaken
  · rw [hNone]
    exact ⟨hPending, rfl⟩
  · rw [hTaken]
    exact ⟨hardwareInterrupt_nmiPending _ _ _, hardwareInterrupt_clock _ _ _⟩

/-- IRQ delivery leaves the mapper's flag clear, and the NMI request and the clock as they were. -/
theorem deliverIrq_clears (s : State) :
    (deliverIrq s).cart.mapper.irqState = false ∧ (deliverIrq s).ppu.nmiPending = s.ppu.nmiPending ∧
      (deliverIrq s).clock = s.clock := by
  rcases deliverIrq_cases s with ⟨hFlag, hNone⟩ | hMasked | hTaken
  · rw [hNone]
    exact ⟨hFlag, rfl, rfl⟩
  · rw [hMasked]
    exact ⟨Mapper.irqState_irqClear _, rfl, rfl⟩
  · rw [hTaken, hardwareInterrupt_cart, hardwareInterrupt_nmiPending, hardwareInterrupt_clock]
    exact ⟨Mapper.irqState_irqClear _, rfl, rfl⟩

theorem endTick_clears (s : State) :
    (endTick s).clock = s.clock + 1 ∧ (endTick s).ppu.nmiPending = false ∧
      (endTick s).cart.mapper.irqState = false := by
  obtain ⟨hPending, hNmiClock⟩ := deliverNmi_clears s
  obtain ⟨hFlag, hKept, hIrqClock⟩ := deliverIrq_clears (deliverNmi s)
  exact ⟨congrArg (· + 1) (hIrqClock.trans hNmiClock), hKept.trans hPending, hFlag⟩

theorem slotStep_clock {s u w : State} (h : slotStep s u = .next w) : w.clock = u.clock := by
  rcases slotStep_cases h with rfl | ⟨-, rfl⟩ | hStep
  · rfl
  · exact dmaStep_clock u
  · exact (cpuStep_busPath hStep).hostPartKept.clock

end Sys2Proof.Machine
end

section
/-! PROOFS. What every step keeps. -/
open Sys2Proof Sys2Proof.Machine

/-- Settles O8: through the PPU's clock, the CPU or DMA part and the interrupt deliveries of a tick. The counter stays
at most 8 because a decoded instruction costs 1 to 8, so that the end of a fetch step can take one off. -/
theorem stepKeepsTheInvariant : Obligations.StepKeepsTheInvariant := by
  intro s t hs hStep
  obtain ⟨w, hSlot, rfl⟩ := step_cases hStep
  have hEmptied : (s.setSink none).inv = true := hs
  exact endTick_inv (slotStep_inv (ppuClock_inv hEmptied) (ppuClock_dma _) hSlot)

/-- Settles O6: the deliveries at the end of a tick clear both requests, and nothing before them writes the clock. -/
theorem stepsAdvanceTheClockAndClearRequests : Obligations.StepsAdvanceTheClockAndClearRequests := by
  intro s t hStep
  obtain ⟨w, hSlot, rfl⟩ := step_cases hStep
  have hClock : w.clock = s.clock := (slotStep_clock hSlot).trans (ppuClock_clock (s.setSink none))
  rw [← hClock]
  exact endTick_clears w

end

section
/-! SUPPORT. The CPU bus range by range: which device an access reaches, and what it then does (`20_memory.md` R81 to
R94). -/
namespace Sys2Proof.Machine

/-- The ranges in which one kind of device answers: work RAM, the PPU's ports, the input and output region, and what
the cartridge may claim (R84). -/
theorem bus_regions (a : Word) :
    a.toNat < 0x2000 ∨ (0x2000 ≤ a.toNat ∧ a.toNat < 0x4000) ∨ (0x4000 ≤ a.toNat ∧ a.toNat < 0x6000) ∨
      0x6000 ≤ a.toNat := by
  omega

-- Reads the cartridge claims, and those it does not

/-- Program memory is mapped at every address from 0x8000 up, by every variant. -/
theorem cpuMapRead_program (c : Cartridge) {a : Word} (h : 0x8000 ≤ a.toNat) :
    ∃ o : Nat, cpuMapRead c a = .offset o := by
  unfold cpuMapRead
  rw [if_pos h]
  split <;> exact ⟨_, rfl⟩

/-- Below 0x8000 no program memory is mapped: at most cartridge RAM answers. -/
theorem cpuMapRead_below (c : Cartridge) {a : Word} (h : a.toNat < 0x8000) :
    cpuMapRead c a = .unclaimed ∨ ∃ d : Byte, cpuMapRead c a = .produced d := by
  unfold cpuMapRead
  rw [if_neg (by omega)]
  split
  · split
    · exact .inr ⟨_, rfl⟩
    · exact .inr ⟨_, rfl⟩
    · exact .inl rfl
  · exact .inl rfl

theorem program_of_cpuMapRead_offset {c : Cartridge} {a : Word} {o : Nat} (h : cpuMapRead c a = .offset o) :
    0x8000 ≤ a.toNat := by
  by_contra hBelow
  rcases cpuMapRead_below c (Nat.lt_of_not_le hBelow) with hNone | ⟨d, hCram⟩
  · exact MapRead.noConfusion (h.symm.trans hNone)
  · exact MapRead.noConfusion (h.symm.trans hCram)

/-- Below 0x8000 a variant without cartridge RAM claims nothing (R94). -/
theorem cpuMapRead_noCram {c : Cartridge} (hCram : c.mapper.hasCram = false) {a : Word} (h : a.toNat < 0x8000) :
    cpuMapRead c a = .unclaimed := by
  unfold cpuMapRead
  rw [if_neg (by omega)]
  revert hCram
  cases c.mapper with
  | serial m | target m => exact fun hCram => Bool.noConfusion hCram
  | _ => exact fun _ => ite_self _

theorem cpuMapWrite_noCram {c : Cartridge} (hCram : c.mapper.hasCram = false) {a : Word} (h : a.toNat < 0x8000)
    (v : Byte) : cpuMapWrite c a v = (.unclaimed, c.mapper) := by
  unfold cpuMapWrite
  rw [if_neg (by omega)]
  revert hCram
  cases c.mapper with
  | serial m | target m => exact fun hCram => Bool.noConfusion hCram
  | _ => exact fun _ => ite_self _

section
variable {a : Word} {s : State}

theorem memRead_unclaimed (h : cpuMapRead s.cart a = .unclaimed) : memRead a s = fixedRead a s := by
  simp [memRead, cartCpuRead, h]

theorem memRead_produced {d : Byte} (h : cpuMapRead s.cart a = .produced d) : memRead a s = (d, s) := by
  simp [memRead, cartCpuRead, h]

/-- A read of mapped program memory draws one free value when it is beyond the image (log entry 3). -/
theorem memRead_offset_state {o : Nat} (h : cpuMapRead s.cart a = .offset o) :
    (memRead a s).2 = s.setFreeIndex (s.freeIndex + if o < s.cart.prgSize then 0 else 1) := by
  simp only [memRead, cartCpuRead, h]
  by_cases ho : o < s.cart.prgSize
  · simp only [if_pos ho]
    rfl
  · simp only [if_neg ho]
    rfl

theorem memWrite_unclaimed {v : Byte} (h : cpuMapWrite s.cart a v = (.unclaimed, s.cart.mapper)) :
    memWrite a v s = fixedWrite a v s := by
  simp only [memWrite, cartCpuWrite, h]
  rfl

end

-- The fixed map from 0x4000 up

/-- From 0x4000 up the fixed map reads as zero but at the controllers (R88, R90, R94). -/
theorem fixedRead_unmapped {a : Word} (h : 0x4000 ≤ a.toNat) (h0 : a ≠ 0x4016) (h1 : a ≠ 0x4017) (s : State) :
    fixedRead a s = (0x00, s) := by
  have h0' : a.toNat ≠ 0x4016 := by bv_omega
  have h1' : a.toNat ≠ 0x4017 := by bv_omega
  simp [fixedRead, h0', h1', show ¬a.toNat < 0x2000 by omega, show ¬a.toNat < 0x4000 by omega]

/-- From 0x4000 up the fixed map discards writes but to the DMA trigger and the controllers (R88, R94). -/
theorem fixedWrite_unmapped {a : Word} (h : 0x4000 ≤ a.toNat) (hDma : a ≠ 0x4014) (h0 : a ≠ 0x4016) (h1 : a ≠ 0x4017)
    (v : Byte) (s : State) : fixedWrite a v s = s := by
  have hDma' : a.toNat ≠ 0x4014 := by bv_omega
  have h0' : a.toNat ≠ 0x4016 := by bv_omega
  have h1' : a.toNat ≠ 0x4017 := by bv_omega
  simp [fixedWrite, hDma', h0', h1', show ¬a.toNat < 0x2000 by omega, show ¬a.toNat < 0x4000 by omega]

-- The PPU's ports

theorem portOf_eq (a : Word) : portOf a = BitVec.ofNat 3 (a.toNat % 8) := by
  apply BitVec.eq_of_toNat_eq
  simp [portOf]

/-- The port of an address is the address modulo 8 (R86). -/
theorem portOf_eq_iff (a : Word) {k : Nat} (hk : k < 8) : portOf a = BitVec.ofNat 3 k ↔ a.toNat % 8 = k := by
  rw [portOf_eq, ← BitVec.toNat_inj]
  simp [Nat.mod_eq_of_lt hk]

theorem memRead_port {a : Word} (hLo : 0x2000 ≤ a.toNat) (hHi : a.toNat < 0x4000) (s : State) :
    memRead a s = ppuPortRead (portOf a) s := by
  rw [memRead_fixed (by omega), fixedRead, if_neg (by omega), if_pos hHi]

theorem memWrite_port {a : Word} (hLo : 0x2000 ≤ a.toNat) (hHi : a.toNat < 0x4000) (v : Byte) (s : State) :
    memWrite a v s = ppuPortWrite (portOf a) v s := by
  rw [memWrite_fixed (by omega), fixedWrite, if_neg (by omega), if_pos hHi]

/-- A read of any port but the status port and the data port changes nothing (R99). -/
theorem ppuPortRead_pure {p : BitVec 3} (hStatus : p ≠ 2) (hData : p ≠ 7) (s : State) : (ppuPortRead p s).2 = s := by
  unfold ppuPortRead
  split
  · exact absurd rfl hStatus
  · rfl
  · exact absurd rfl hData
  · rfl

/-- A read of the PPU's space that the cartridge does not map changes nothing. -/
theorem ppuRead_unmapped_state {a : Word} {s : State} (h : ppuMapRead s.cart (a.toNat % 0x4000) = none) :
    (ppuRead a s).2 = s := by
  simp only [ppuRead, cartPpuRead, h]
  split
  · rfl
  · split <;> rfl

/-- A read of mapped character memory draws one free value when it is beyond the image (log entry 3). -/
theorem ppuRead_offset_state {a : Word} {s : State} {o : Nat} (h : ppuMapRead s.cart (a.toNat % 0x4000) = some o) :
    (ppuRead a s).2 = s.setFreeIndex (s.freeIndex + if o < s.cart.chrSize then 0 else 1) := by
  simp only [ppuRead, cartPpuRead, h]
  by_cases ho : o < s.cart.chrSize
  · simp only [if_pos ho]
    rfl
  · simp only [if_neg ho]
    rfl

/-- A read of the data port draws a free value where its read of the PPU's space does. -/
theorem readPort7_freeIndex (s : State) :
    (readPort7 s).2.freeIndex = (ppuRead (s.ppu.v.setWidth 16) s).2.freeIndex := rfl

/-- The data port reaches the PPU's space at the address `v` holds. -/
theorem dataAddress_toNat (v : BitVec 15) : (v.setWidth 16).toNat = v.toNat :=
  BitVec.toNat_setWidth_of_le (by decide)

/-- Of the PPU a read of the data port writes the buffer and `v` (`50_ppu.md` R417). -/
theorem readPort7_frame (s : State) :
    (readPort7 s).2 = { s with ppu := { s.ppu with dataBuffer := (readPort7 s).2.ppu.dataBuffer,
                                                   v := (readPort7 s).2.ppu.v },
                               freeIndex := (readPort7 s).2.freeIndex } := by
  unfold readPort7
  dsimp only
  rw [ppuRead_state]
  rfl

-- The controllers

theorem memRead_controller0 (s : State) : memRead 0x4016 s = readController0 s := memRead_fixed (by decide) s

theorem memRead_controller1 (s : State) : memRead 0x4017 s = readController1 s := memRead_fixed (by decide) s

/-- A write of a controller port latches the live buttons, whatever the value (R92). -/
theorem memWrite_controller0 (v : Byte) (s : State) : memWrite 0x4016 v s = s.setLatch0 s.controller0 :=
  memWrite_fixed (by decide) v s

theorem memWrite_controller1 (v : Byte) (s : State) : memWrite 0x4017 v s = s.setLatch1 s.controller1 :=
  memWrite_fixed (by decide) v s

/-- Below 0x8000 no read but the four kinds of R99 changes anything. -/
theorem memRead_pure {a : Word} {s : State} (h : a.toNat < 0x8000)
    (hPort : ¬((0x2000 ≤ a.toNat ∧ a.toNat < 0x4000) ∧ (a.toNat % 8 = 2 ∨ a.toNat % 8 = 7))) (h0 : a ≠ 0x4016)
    (h1 : a ≠ 0x4017) : (memRead a s).2 = s := by
  by_cases hRam : a.toNat < 0x2000
  · rw [memRead_ram hRam]
  by_cases hPorts : a.toNat < 0x4000
  · rw [memRead_port (by omega) hPorts]
    refine ppuPortRead_pure (fun hp => ?_) (fun hp => ?_) s
    · have := (portOf_eq_iff a (k := 2) (by decide)).mp hp
      omega
    · have := (portOf_eq_iff a (k := 7) (by decide)).mp hp
      omega
  · rcases cpuMapRead_below s.cart h with hNone | ⟨d, hCram⟩
    · rw [memRead_unclaimed hNone, fixedRead_unmapped (by omega) h0 h1]
    · rw [memRead_produced hCram]

end Sys2Proof.Machine
end

section
/-! SUPPORT. A write of one byte at a place of memory, and the bus writes as such writes (`20_memory.md` R82, R111,
`50_ppu.md` R414, R417, `21_cartridge_mappers.md` R146, R147). -/
namespace Sys2Proof.Machine

/-- Cartridge RAM with byte `v` at `k`; a variant without any is left as it is. -/
def Mapper.writeCram (k : Nat) (v : Byte) : Mapper → Mapper
  | .serial m => .serial { m with cram := m.cram.write k v }
  | .target m => .target { m with cram := m.cram.write k v }
  | m => m

theorem Mapper.writeCram_cram {m : Mapper} (h : m.hasCram = true) (k : Nat) (v : Byte) :
    (m.writeCram k v).cram = m.cram.write k v := by
  cases m with
  | serial | target => rfl
  | _ => contradiction

theorem Mapper.writeCram_read_other (m : Mapper) (v : Byte) {j k : Nat} (h : j ≠ k) :
    (m.writeCram k v).cram.read j = m.cram.read j := by
  cases m with
  | serial | target => exact Memory.read_write_other _ v h
  | _ => rfl

/-- The state with byte `v` at a place of memory: what `State.byteAt` reads, written. -/
def State.writeAt (v : Byte) (s : State) : Loc → State
  | .ram k => s.setRam (s.ram.write k v)
  | .nt0 k => s.setPpu { s.ppu with nt0 := s.ppu.nt0.write k v }
  | .nt1 k => s.setPpu { s.ppu with nt1 := s.ppu.nt1.write k v }
  | .pal k => s.setPpu { s.ppu with pal := s.ppu.pal.write k v }
  | .oam k => s.setPpu { s.ppu with oam := s.ppu.oam.write k v }
  | .pt0 k => s.setPpu { s.ppu with pt0 := s.ppu.pt0.write k v }
  | .pt1 k => s.setPpu { s.ppu with pt1 := s.ppu.pt1.write k v }
  | .prg k => s.setCart { s.cart with prg := s.cart.prg.write k v }
  | .chr k => s.setCart { s.cart with chr := s.cart.chr.write k v }
  | .cram k => s.setMapper (s.cart.mapper.writeCram k v)

/-- A write at a place is seen there. Cartridge RAM has to be there. -/
theorem State.byteAt_writeAt_same {s : State} (h : s.OutsideValid) (v : Byte) {l : Loc}
    (hCram : ∀ k : Nat, l = .cram k → s.cart.mapper.hasCram = true) : (s.writeAt v l).byteAt l = v := by
  cases l with
  | ram k => exact Memory.read_write_same h.ram.1 k v
  | nt0 k => exact Memory.read_write_same h.ppu.nt0.1 k v
  | nt1 k => exact Memory.read_write_same h.ppu.nt1.1 k v
  | pal k => exact Memory.read_write_same h.ppu.pal.1 k v
  | oam k => exact Memory.read_write_same h.ppu.oam.1 k v
  | pt0 k => exact Memory.read_write_same h.ppu.pt0.1 k v
  | pt1 k => exact Memory.read_write_same h.ppu.pt1.1 k v
  | prg k => exact Memory.read_write_same h.cart.prg.1 k v
  | chr k => exact Memory.read_write_same h.cart.chr.1 k v
  | cram k =>
    exact (congrArg (Memory.read · k) (Mapper.writeCram_cram (hCram k rfl) k v)).trans
      (Memory.read_write_same h.cart.mapper.cram.1 k v)

/-- A write at a place is seen at no other, in any state. -/
theorem State.byteAt_writeAt_other (s : State) (v : Byte) {l l' : Loc} (hne : l' ≠ l) :
    (s.writeAt v l).byteAt l' = s.byteAt l' := by
  cases l with
  | cram k =>
    cases l' with
    | cram j =>
      have hjk : j ≠ k := fun h => hne (congrArg Loc.cram h)
      exact Mapper.writeCram_read_other s.cart.mapper v hjk
    | _ => rfl
  | _ =>
    -- In another array nothing is written; in the same one the index differs.
    cases l' <;> simp_all [State.writeAt, State.byteAt, Memory.read_write_other]

/-- The state with byte `v` at a place of memory, if there is a place. -/
def State.writeAt? (v : Byte) (s : State) (target : Option Loc) : State := target.elim s (s.writeAt v)

-- Where a store lands

theorem storeTarget_ram {a : Word} (h : a.toNat < 0x2000) (s : State) :
    storeTarget a s = some (.ram (a.toNat % 0x800)) := if_pos h

/-- The place a write of a PPU port lands in, if it lands in one (`50_ppu.md` R414, R417). -/
def portStoreTarget (port : BitVec 3) (s : State) : Option Loc :=
  match port with
  | 4 => some (.oam s.ppu.oamAddr.toNat)
  | 7 => some (ppuStoreTarget s)
  | _ => none

theorem storeTarget_port {a : Word} (hLo : 0x2000 ≤ a.toNat) (hHi : a.toNat < 0x4000) (s : State) :
    storeTarget a s = portStoreTarget (portOf a) s := by
  rw [storeTarget, if_neg (by omega), if_pos hHi]
  rfl

/-- From 0x4000 up a store lands in cartridge RAM, where there is some, or in no place. -/
theorem storeTarget_upper {a : Word} (h : 0x4000 ≤ a.toNat) (s : State) :
    storeTarget a s =
      if 0x6000 ≤ a.toNat ∧ a.toNat < 0x8000 ∧ s.cart.mapper.hasCram then some (.cram (a.toNat % 0x2000)) else none := by
  rw [storeTarget, if_neg (by omega), if_neg (by omega)]

theorem ppuStoreTarget_ne_cram (s : State) (k : Nat) : ppuStoreTarget s ≠ .cram k := by
  unfold ppuStoreTarget
  dsimp only
  split_ifs <;> exact Loc.noConfusion

theorem portStoreTarget_ne_cram (p : BitVec 3) (s : State) (k : Nat) : portStoreTarget p s ≠ some (.cram k) := by
  unfold portStoreTarget
  split
  · simp
  · exact fun h => ppuStoreTarget_ne_cram s k (Option.some.inj h)
  · simp

/-- Cartridge RAM is a store's place only where the variant has some. -/
theorem hasCram_of_storeTarget {a : Word} {s : State} {k : Nat} (h : storeTarget a s = some (.cram k)) :
    s.cart.mapper.hasCram = true := by
  by_cases hRam : a.toNat < 0x2000
  · simp [storeTarget_ram hRam] at h
  by_cases hPorts : a.toNat < 0x4000
  · rw [storeTarget_port (by omega) hPorts] at h
    exact absurd h (portStoreTarget_ne_cram _ s k)
  · rw [storeTarget_upper (by omega)] at h
    split at h
    · rename_i hCram
      exact hCram.2.2
    · contradiction

-- What a write of each device puts where

theorem setPpu_ptWrite (k j : Nat) (v : Byte) (s : State) :
    s.setPpu (s.ppu.ptWrite (decide (0x1000 ≤ k)) j v) = s.writeAt v (if k < 0x1000 then .pt0 j else .pt1 j) := by
  by_cases hk : k < 0x1000
  · simp only [Ppu.ptWrite, decide_eq_false (show ¬0x1000 ≤ k by omega), if_pos hk]
    rfl
  · simp only [Ppu.ptWrite, decide_eq_true (show 0x1000 ≤ k by omega), if_neg hk]
    rfl

theorem setPpu_ntWrite (table : Bool) (j : Nat) (v : Byte) (s : State) :
    s.setPpu (s.ppu.ntWrite table j v) = s.writeAt v (if table then .nt1 j else .nt0 j) := by
  cases table <;> rfl

/-- A write of the data port's address in the PPU's space puts the byte at its place and does nothing else. -/
theorem ppuWrite_eq (v : Byte) (s : State) : ppuWrite (s.ppu.v.setWidth 16) v s = s.writeAt v (ppuStoreTarget s) := by
  unfold ppuWrite cartPpuWrite ppuMapWrite ppuStoreTarget
  rw [dataAddress_toNat]
  by_cases hPattern : s.ppu.v.toNat % 0x4000 < 0x2000
  · by_cases hRam : s.cart.chrBanks = 0
    · simp only [if_pos (And.intro hPattern hRam), if_pos hPattern, if_pos hRam]
      rfl
    · simp only [hPattern, hRam, and_false, if_true, if_false]
      exact setPpu_ptWrite _ _ v s
  · simp only [hPattern, false_and, if_false]
    split
    · exact setPpu_ntWrite _ _ v s
    · rfl

/-- The port that is none of the seven below it is the data port. -/
theorem port_eq_seven {p : BitVec 3} (h0 : p ≠ 0) (h1 : p ≠ 1) (h2 : p ≠ 2) (h3 : p ≠ 3) (h4 : p ≠ 4) (h5 : p ≠ 5)
    (h6 : p ≠ 6) : p = 7 := by
  bv_omega

/-- Of memory a port's write changes the byte it lands in. -/
theorem ppuPortWrite_memory (p : BitVec 3) (v : Byte) (s : State) :
    MemoryKept (s.writeAt? v (portStoreTarget p s)) (ppuPortWrite p v s) := by
  intro l
  unfold ppuPortWrite
  split
  case h_6 =>
    unfold Ppu.writeScroll
    split <;> cases l <;> rfl
  case h_7 =>
    unfold Ppu.writeAddr
    split <;> cases l <;> rfl
  case h_8 h0 h1 h2 h3 h4 h5 h6 =>
    obtain rfl := port_eq_seven h0 h1 h2 h3 h4 h5 h6
    simp only [writePort7, ppuWrite_eq]
    cases l <;> rfl
  all_goals cases l <;> rfl

/-- From 0x6000 up the fixed map writes nothing, so that a write is the mapper's alone. -/
theorem memWrite_mapper {a : Word} (h : 0x6000 ≤ a.toNat) (v : Byte) (s : State) :
    memWrite a v s = s.setMapper (cpuMapWrite s.cart a v).2 := by
  unfold memWrite cartCpuWrite
  cases (cpuMapWrite s.cart a v).1 with
  | claimed => rfl
  | unclaimed => exact fixedWrite_unmapped (by omega) (by bv_omega) (by bv_omega) (by bv_omega) v _

theorem cpuMapWrite_cram {c : Cartridge} {a : Word} (hLo : 0x6000 ≤ a.toNat) (hHi : a.toNat < 0x8000) (v : Byte) :
    (cpuMapWrite c a v).2 = c.mapper.writeCram (a.toNat % 0x2000) v := by
  unfold cpuMapWrite
  rw [if_neg (by omega), if_pos hLo]
  cases c.mapper <;> rfl

/-- A write of the mapper's registers keeps cartridge RAM. -/
theorem cpuMapWrite_registers {c : Cartridge} {a : Word} (h : 0x8000 ≤ a.toNat) (v : Byte) :
    (cpuMapWrite c a v).2.cram = c.mapper.cram := by
  unfold cpuMapWrite
  rw [if_pos h]
  cases c.mapper with
  | serial m => exact m.write_cram a v
  | target m => exact m.write_cram a v
  | _ => rfl

theorem memoryKept_setMapper {s : State} {m : Mapper} (h : m.cram = s.cart.mapper.cram) :
    MemoryKept s (s.setMapper m) := by
  intro l
  cases l with
  | cram k => exact congrArg (Memory.read · k) h
  | _ => rfl

/-- In the input and output region a write reaches the DMA trigger or a controller latch, no memory. -/
theorem memWrite_io {a : Word} (hLo : 0x4000 ≤ a.toNat) (hHi : a.toNat < 0x6000) (v : Byte) (s : State) :
    (a = 0x4014 ∧ memWrite a v s = dmaArm v s) ∨ memWrite a v s = s.setLatch0 s.controller0 ∨
      memWrite a v s = s.setLatch1 s.controller1 ∨ memWrite a v s = s := by
  by_cases hDma : a = 0x4014
  · exact .inl ⟨hDma, by rw [hDma]; exact memWrite_fixed (by decide) v s⟩
  by_cases h0 : a = 0x4016
  · exact .inr (.inl (by rw [h0, memWrite_controller0]))
  by_cases h1 : a = 0x4017
  · exact .inr (.inr (.inl (by rw [h1, memWrite_controller1])))
  · exact .inr (.inr (.inr (by rw [memWrite_fixed hHi, fixedWrite_unmapped hLo hDma h0 h1])))

/-- Of memory a bus write changes the byte it lands in, in any state. -/
theorem memWrite_memory (a : Word) (v : Byte) (s : State) :
    MemoryKept (s.writeAt? v (storeTarget a s)) (memWrite a v s) := by
  rcases bus_regions a with hRam | ⟨hLo, hHi⟩ | ⟨hLo, hHi⟩ | hCart
  · rw [storeTarget_ram hRam, memWrite_ram hRam]
    exact fun _ => rfl
  · rw [storeTarget_port hLo hHi, memWrite_port hLo hHi]
    exact ppuPortWrite_memory _ v s
  · rw [storeTarget_upper hLo, if_neg (by omega)]
    rcases memWrite_io hLo hHi v s with ⟨-, hWrite⟩ | hWrite | hWrite | hWrite <;> rw [hWrite] <;> intro l <;>
      cases l <;> rfl
  · rw [storeTarget_upper (by omega), memWrite_mapper hCart]
    split
    · rename_i hTarget
      rw [cpuMapWrite_cram hCart hTarget.2.1]
      exact fun _ => rfl
    · rename_i hNone
      refine memoryKept_setMapper ?_
      by_cases hHi : a.toNat < 0x8000
      · rw [cpuMapWrite_noCram (Bool.eq_false_of_not_eq_true fun hCram => hNone ⟨hCart, hHi, hCram⟩) hHi]
        rfl
      · exact cpuMapWrite_registers (Nat.le_of_not_lt hHi) v

/-- In a state of the invariant the byte a bus write lands in then reads as the byte written. -/
theorem memWrite_storedAt {s : State} (h : s.OutsideValid) (a : Word) (v : Byte) :
    StoredAt a v s s (memWrite a v s) := by
  have hMemory := memWrite_memory a v s
  refine ⟨fun l hl => ?_, fun l hl => ?_⟩
  · rw [hMemory l, hl]
    refine State.byteAt_writeAt_same h v ?_
    rintro k rfl
    exact hasCram_of_storeTarget hl
  · rw [hMemory l]
    cases hTarget : storeTarget a s with
    | none => rfl
    | some l' =>
      refine State.byteAt_writeAt_other s v ?_
      rintro rfl
      exact hl hTarget

-- What else a write changes

theorem ppuWrite_frame (a : Word) (v : Byte) (s : State) :
    ppuWrite a v s = { s with ppu := (ppuWrite a v s).ppu, cart := { s.cart with chr := (ppuWrite a v s).cart.chr } } := by
  unfold ppuWrite cartPpuWrite
  dsimp only
  cases ppuMapWrite s.cart (a.toNat % 0x4000) with
  | some o => rfl
  | none =>
    dsimp only
    split
    · rfl
    · split <;> rfl

/-- Outside the PPU a write of one of its ports can reach character RAM alone. -/
theorem ppuPortWrite_frame (p : BitVec 3) (v : Byte) (s : State) :
    ppuPortWrite p v s = { s with ppu := (ppuPortWrite p v s).ppu,
                                  cart := { s.cart with chr := (ppuPortWrite p v s).cart.chr } } := by
  unfold ppuPortWrite
  split
  case h_8 =>
    unfold writePort7
    dsimp only
    rw [ppuWrite_frame]
    rfl
  all_goals rfl

end Sys2Proof.Machine
end

section
/-! SUPPORT. A controller latch as a shift register. -/
namespace Sys2Proof.Machine

theorem iterate_shiftLeft_one (n : Nat) (b : Byte) : (fun x : Byte => x <<< 1)^[n] b = b <<< n := by
  induction n generalizing b with
  | zero => simp
  | succ n ih => rw [Function.iterate_succ_apply, ih, ← BitVec.shiftLeft_add, Nat.add_comm]

/-- Bit 7 of a latch shifted `n` times is bit `7 - n`, and zero once all eight have left (R93). -/
theorem bitByte_shifted (b : Byte) (n : Nat) :
    bitByte ((b <<< n).getLsbD 7) = if n < 8 ∧ b.getLsbD (7 - n) = true then 0x01#8 else 0x00#8 := by
  unfold bitByte
  rw [BitVec.getLsbD_shiftLeft]
  have : 7 < n ↔ ¬n < 8 := by omega
  simp [this]

/-- Reads that each shift a latch by one shift it `n` times in `n` reads. -/
theorem iterate_shifts {load : Byte → State} {read : State → State} (h : ∀ x : Byte, read (load x) = load (x <<< 1))
    (n : Nat) (b : Byte) : read^[n] (load b) = load (b <<< n) := by
  have hRead : Function.Semiconj load (fun x : Byte => x <<< 1) read := fun x => (h x).symm
  rw [← iterate_shiftLeft_one]
  exact ((hRead.iterate_right n) b).symm

theorem iterate_memRead_controller0 (n : Nat) (b : Byte) (s : State) :
    (fun t : State => (memRead 0x4016 t).2)^[n] (s.setLatch0 b) = s.setLatch0 (b <<< n) :=
  iterate_shifts (load := fun x => s.setLatch0 x) (fun x => congrArg Prod.snd (memRead_controller0 (s.setLatch0 x))) n b

theorem iterate_memRead_controller1 (n : Nat) (b : Byte) (s : State) :
    (fun t : State => (memRead 0x4017 t).2)^[n] (s.setLatch1 b) = s.setLatch1 (b <<< n) :=
  iterate_shifts (load := fun x => s.setLatch1 x) (fun x => congrArg Prod.snd (memRead_controller1 (s.setLatch1 x))) n b

end Sys2Proof.Machine
end

section
/-! PROOFS. The CPU bus. -/
open Sys2Proof Sys2Proof.Machine

/-- Settles O40: an address reaches RAM modulo 2048 and the ports modulo 8, so that images are equal addresses. -/
theorem ramAndPortsAreImaged : Obligations.RamAndPortsAreImaged := by
  refine ⟨fun a b v s hRam ha hb => ⟨memRead_ram ha s, ?_, ?_⟩, fun a v s hLo hHi => ?_⟩
  · rw [memWrite_ram ha, memRead_ram hb, memRead_ram hb]
    simp only [State.setRam_ram, Memory.read_write hRam, eq_comm]
  · rw [memWrite_ram ha]
    rfl
  · rw [memRead_port hLo hHi, memWrite_port hLo hHi, portOf_eq]
    exact ⟨rfl, rfl⟩

/-- Settles O41: the cartridge claims none of these addresses, and the fixed map decodes none of them. -/
theorem unmappedAddressesReadZero : Obligations.UnmappedAddressesReadZero := by
  intro a v s hLo hRange h0 h1
  have hUnclaimed : cpuMapRead s.cart a = .unclaimed ∧ cpuMapWrite s.cart a v = (.unclaimed, s.cart.mapper) := by
    rcases hRange with hIo | ⟨hHi, hCram⟩
    · exact ⟨cpuMapRead_unclaimed _ hIo, cpuMapWrite_unclaimed _ v hIo⟩
    · exact ⟨cpuMapRead_noCram hCram hHi, cpuMapWrite_noCram hCram hHi v⟩
  obtain ⟨hRead, hWrite⟩ := hUnclaimed
  rw [memRead_unclaimed hRead, memWrite_unclaimed hWrite]
  exact ⟨fixedRead_unmapped hLo h0 h1 s, fun hDma => fixedWrite_unmapped hLo hDma h0 h1 v s⟩

/-- Settles O42: port by port below 0x8000, and by the offset the cartridge maps from 0x8000 up. -/
theorem onlyFourKindsOfReadHaveSideEffects : Obligations.OnlyFourKindsOfReadHaveSideEffects := by
  intro a s
  dsimp only
  refine ⟨fun ⟨hLo, hHi⟩ hStatus => ?_, fun ⟨hLo, hHi⟩ hData => ?_, fun h => ?_, fun h => ?_, fun hPort h0 h1 => ?_⟩
  · rw [memRead_port hLo hHi, (portOf_eq_iff a (by decide)).mpr hStatus]
    rfl
  · have hRead : memRead a s = readPort7 s := by
      rw [memRead_port hLo hHi, (portOf_eq_iff a (by decide)).mpr hData]
      rfl
    rw [hRead]
    refine ⟨readPort7_frame s, ?_⟩
    rw [readPort7_freeIndex]
    cases hMap : ppuMapRead s.cart (s.ppu.v.toNat % 0x4000) with
    | none => rw [ppuRead_unmapped_state (by rwa [dataAddress_toNat])]; rfl
    | some o => rw [ppuRead_offset_state (by rwa [dataAddress_toNat])]; rfl
  · rw [h, memRead_controller0]
    rfl
  · rw [h, memRead_controller1]
    rfl
  · by_cases hBelow : a.toNat < 0x8000
    · rw [memRead_pure hBelow hPort h0 h1]
      exact ⟨rfl, fun _ => rfl, fun o ho => absurd (program_of_cpuMapRead_offset ho) (Nat.not_le_of_lt hBelow)⟩
    · obtain ⟨o, ho⟩ := cpuMapRead_program s.cart (Nat.le_of_not_lt hBelow)
      rw [memRead_offset_state ho]
      refine ⟨rfl, fun h => absurd h hBelow, fun o' ho' => ?_⟩
      rw [MapRead.offset.inj (ho.symm.trans ho')]
      rfl

/-- Settles O43: the byte is told by `memWrite_storedAt`; the rest range by range, since the device that answers in a
range writes its own component alone. -/
theorem busWritesChangeOneByteOfMemory : Obligations.BusWritesChangeOneByteOfMemory := by
  intro a v s hs
  obtain ⟨-, hOut⟩ := s.inv_iff.mp hs
  refine ⟨memWrite_storedAt hOut a v, ?_⟩
  rcases bus_regions a with hRam | ⟨hLo, hHi⟩ | ⟨hLo, hHi⟩ | hCart
  · rw [memWrite_ram hRam]
    exact ⟨rfl, fun _ => rfl, fun _ => ⟨rfl, rfl, rfl, rfl⟩, fun _ => rfl, rfl⟩
  · rw [memWrite_port hLo hHi, ppuPortWrite_frame]
    exact ⟨rfl, fun h => by omega, fun h => by omega, fun _ => rfl, rfl⟩
  · rcases memWrite_io hLo hHi v s with ⟨hDma, hWrite⟩ | hWrite | hWrite | hWrite <;> rw [hWrite]
    · exact ⟨rfl, fun _ => rfl, fun h => by omega, fun h => absurd hDma h, rfl⟩
    all_goals exact ⟨rfl, fun _ => rfl, fun h => by omega, fun _ => rfl, rfl⟩
  · rw [memWrite_mapper hCart]
    exact ⟨rfl, fun _ => rfl, fun h => by omega, fun _ => rfl, rfl⟩

/-- Settles O44: a write loads the latch with the live buttons, and each read shifts it left by one. -/
theorem controllersShiftOutTheirButtons : Obligations.ControllersShiftOutTheirButtons := by
  intro v n s
  dsimp only
  rw [memWrite_controller0, memWrite_controller1, iterate_memRead_controller0, iterate_memRead_controller1,
    memRead_controller0, memRead_controller1]
  exact ⟨bitByte_shifted _ n, bitByte_shifted _ n⟩

end

section
/-! SUPPORT. What the machine never writes: the cartridge's images and parameters, the scalar parameters and the host's
inputs, through each part of a tick (`21_cartridge_mappers.md` R147, R149, `51_bus_clock_dma.md` R501, R502). -/
namespace Sys2Proof.Machine

/-- `d` is the cartridge `c` with other mapper registers, and with other character memory only where that is RAM. -/
structure Cartridge.ImagesKept (c d : Cartridge) : Prop where
  prg : d.prg = c.prg
  prgBanks : d.prgBanks = c.prgBanks
  chrBanks : d.chrBanks = c.chrBanks
  hwMirror : d.hwMirror = c.hwMirror
  chr : c.chrBanks ≠ 0 → d.chr = c.chr

theorem Cartridge.ImagesKept.refl (c : Cartridge) : c.ImagesKept c := ⟨rfl, rfl, rfl, rfl, fun _ => rfl⟩

/-- The mapper's registers are no part of an image. -/
theorem Cartridge.ImagesKept.of_mapper (c : Cartridge) (m : Mapper) : c.ImagesKept { c with mapper := m } :=
  ⟨rfl, rfl, rfl, rfl, fun _ => rfl⟩

theorem Cartridge.ImagesKept.trans {c d e : Cartridge} (h : c.ImagesKept d) (k : d.ImagesKept e) : c.ImagesKept e where
  prg := k.prg.trans h.prg
  prgBanks := k.prgBanks.trans h.prgBanks
  chrBanks := k.chrBanks.trans h.chrBanks
  hwMirror := k.hwMirror.trans h.hwMirror
  chr hRom := (k.chr (h.chrBanks ▸ hRom)).trans (h.chr hRom)

/-- A write of the PPU's space reaches the character memory only where that is RAM (R149). -/
theorem ppuWrite_imagesKept (a : Word) (v : Byte) (s : State) : s.cart.ImagesKept (ppuWrite a v s).cart := by
  have hRom (hBanks : s.cart.chrBanks ≠ 0) : (ppuWrite a v s).cart.chr = s.cart.chr := by
    unfold ppuWrite cartPpuWrite ppuMapWrite
    simp only [hBanks, and_false, if_false]
    split
    · rfl
    · split <;> rfl
  refine ⟨?_, ?_, ?_, ?_, hRom⟩ <;> rw [ppuWrite_frame]

theorem ppuPortWrite_imagesKept (p : BitVec 3) (v : Byte) (s : State) :
    s.cart.ImagesKept (ppuPortWrite p v s).cart := by
  unfold ppuPortWrite
  split
  case h_8 => exact ppuWrite_imagesKept _ v s
  all_goals exact .refl s.cart

/-- The registers of a mapper apart, a bus write reaches the cartridge by the data port alone. -/
theorem memWrite_imagesKept (a : Word) (v : Byte) (s : State) : s.cart.ImagesKept (memWrite a v s).cart := by
  rcases bus_regions a with hRam | ⟨hLo, hHi⟩ | ⟨hLo, hHi⟩ | hCart
  · rw [memWrite_ram hRam]
    exact .refl s.cart
  · rw [memWrite_port hLo hHi]
    exact ppuPortWrite_imagesKept _ v s
  · rcases memWrite_io hLo hHi v s with ⟨-, hWrite⟩ | hWrite | hWrite | hWrite <;> rw [hWrite] <;> exact .refl s.cart
  · rw [memWrite_mapper hCart]
    exact .of_mapper s.cart _

theorem BusPath.imagesKept {s u : State} (h : BusPath s u) : s.cart.ImagesKept u.cart := by
  induction h with
  | refl => exact .refl s.cart
  | reads _ hr ih => exact hr.cart.symm ▸ ih
  | write a v _ ih => exact ih.trans (memWrite_imagesKept a v _)

/-- From `s` to `t` no image or parameter of the cartridge is written, no scalar parameter and no input of the host. -/
structure FixedPartKept (s t : State) : Prop where
  images : s.cart.ImagesKept t.cart
  params : t.params = s.params
  controller0 : t.controller0 = s.controller0
  controller1 : t.controller1 = s.controller1
  renderEnable : t.renderEnable = s.renderEnable

theorem FixedPartKept.refl (s : State) : FixedPartKept s s := ⟨.refl s.cart, rfl, rfl, rfl, rfl⟩

theorem FixedPartKept.trans {s t u : State} (h : FixedPartKept s t) (k : FixedPartKept t u) : FixedPartKept s u where
  images := h.images.trans k.images
  params := k.params.trans h.params
  controller0 := k.controller0.trans h.controller0
  controller1 := k.controller1.trans h.controller1
  renderEnable := k.renderEnable.trans h.renderEnable

theorem BusPath.fixedPartKept {s u : State} (h : BusPath s u) : FixedPartKept s u :=
  { h.hostPartKept with images := h.imagesKept }

theorem FixedPartKept.setMapper (s : State) (m : Mapper) : FixedPartKept s (s.setMapper m) :=
  ⟨.of_mapper s.cart m, rfl, rfl, rfl, rfl⟩

theorem FixedPartKept.setPpu (s : State) (p : Ppu) : FixedPartKept s (s.setPpu p) := ⟨.refl s.cart, rfl, rfl, rfl, rfl⟩

theorem FixedPartKept.setSink (s : State) (x : Option Pixel) : FixedPartKept s (s.setSink x) :=
  ⟨.refl s.cart, rfl, rfl, rfl, rfl⟩

theorem hardwareInterrupt_fixedPartKept (vector : Word) (cost : Byte) (s : State) :
    FixedPartKept s (hardwareInterrupt vector cost s) :=
  (BusPath.refl.hardwareInterrupt vector cost).fixedPartKept

/-- Outside the PPU its clock writes nothing but what is not fixed: of the cartridge, the mapper's registers. -/
theorem ppuClock_fixedPartKept (s : State) : FixedPartKept s (ppuClock s) := by
  rw [ppuClock_frame]
  exact ⟨.of_mapper s.cart _, rfl, rfl, rfl, rfl⟩

/-- The DMA engine reads the bus and writes its own registers and the sprite memory. -/
theorem dmaStep_fixedPartKept (s : State) : FixedPartKept s (dmaStep s) := by
  unfold dmaStep
  split
  · split <;> exact ⟨.refl s.cart, rfl, rfl, rfl, rfl⟩
  · split
    · exact (BusPath.of_reads (memRead_afterReads _ s).1).fixedPartKept.trans ⟨.refl _, rfl, rfl, rfl, rfl⟩
    · exact ⟨.refl s.cart, rfl, rfl, rfl, rfl⟩

theorem slotStep_fixedPartKept {s u w : State} (h : slotStep s u = .next w) : FixedPartKept u w := by
  rcases slotStep_cases h with rfl | ⟨-, rfl⟩ | hStep
  · exact .refl w
  · exact dmaStep_fixedPartKept u
  · exact (cpuStep_busPath hStep).fixedPartKept

theorem deliverNmi_fixedPartKept (s : State) : FixedPartKept s (deliverNmi s) := by
  rcases deliverNmi_cases s with ⟨-, hNone⟩ | hTaken
  · rw [hNone]
    exact .refl s
  · rw [hTaken]
    exact (FixedPartKept.setPpu s _).trans (hardwareInterrupt_fixedPartKept _ _ _)

theorem deliverIrq_fixedPartKept (s : State) : FixedPartKept s (deliverIrq s) := by
  have hClear := FixedPartKept.setMapper s s.cart.mapper.irqClear
  rcases deliverIrq_cases s with ⟨-, hNone⟩ | hMasked | hTaken
  · rw [hNone]
    exact .refl s
  · rwa [hMasked]
  · rw [hTaken]
    exact hClear.trans (hardwareInterrupt_fixedPartKept _ _ _)

theorem endTick_fixedPartKept (s : State) : FixedPartKept s (endTick s) :=
  (deliverNmi_fixedPartKept s).trans { deliverIrq_fixedPartKept (deliverNmi s) with }

theorem step_fixedPartKept {s t : State} (h : step s = .next t) : FixedPartKept s t := by
  obtain ⟨w, hSlot, rfl⟩ := step_cases h
  have hClock := (FixedPartKept.setSink s none).trans (ppuClock_fixedPartKept _)
  exact (hClock.trans (slotStep_fixedPartKept hSlot)).trans (endTick_fixedPartKept w)

end Sys2Proof.Machine
end

section
/-! PROOFS. What no step writes. -/
open Sys2Proof Sys2Proof.Machine

/-- Settles O10: the PPU's clock writes of the cartridge the mapper alone, and a bus write reaches beyond the mapper
only by the data port, into character RAM. -/
theorem noStepWritesTheCartridgeImages : Obligations.NoStepWritesTheCartridgeImages := by
  intro s t hStep
  obtain ⟨⟨hPrg, hPrgBanks, hChrBanks, hMirror, hChr⟩, hParams, h0, h1, hRender⟩ := step_fixedPartKept hStep
  exact ⟨hPrg, hPrgBanks, hChrBanks, hMirror, hChr, hParams, h0, h1, hRender⟩

end

section
/-! SUPPORT. The windows of the cartridge: which byte of an image a read shows, variant by variant, and what a register
write leaves (`21_cartridge_mappers.md` R145 to R190). -/
namespace Sys2Proof.Machine

-- Reads that show a byte of an image or of cartridge RAM

section
variable {s : State} {a : Word}

/-- A read mapped into the program image returns its byte and changes nothing (R145). -/
theorem memRead_program {o : Nat} (hMap : cpuMapRead s.cart a = .offset o) (ho : o < s.cart.prgSize) :
    memRead a s = (s.byteAt (.prg o), s) := by
  simp only [memRead, cartCpuRead, hMap, if_pos ho, State.byteAt]

/-- A read mapped into the character image returns its byte and changes nothing (R148). -/
theorem ppuRead_character {n o : Nat} (hn : n < 0x2000) (hMap : ppuMapRead s.cart n = some o)
    (ho : o < s.cart.chrSize) : ppuRead (BitVec.ofNat 16 n) s = (s.byteAt (.chr o), s) := by
  have hAddr : (BitVec.ofNat 16 n).toNat % 0x4000 = n := by
    rw [BitVec.toNat_ofNat]
    omega
  simp only [ppuRead, hAddr, cartPpuRead, hMap, if_pos ho, State.byteAt]

/-- Cartridge RAM is seen at 0x6000 to 0x7FFF (R161, R181). -/
theorem memRead_cram (hCram : s.cart.mapper.hasCram = true) (hLo : 0x6000 ≤ a.toNat) (hHi : a.toNat < 0x8000) :
    memRead a s = (s.byteAt (.cram (a.toNat - 0x6000)), s) := by
  have hIndex : a.toNat % 0x2000 = a.toNat - 0x6000 := by omega
  refine memRead_produced ?_
  unfold cpuMapRead
  rw [if_neg (by omega), if_pos hLo, hIndex]
  cases hm : s.cart.mapper with
  | serial m | target m => simp only [State.byteAt, hm, Mapper.cram]
  | _ => simp [hm, Mapper.hasCram] at hCram

end

-- The maps of each variant

section
variable {c : Cartridge} {a : Word} (ha : 0x8000 ≤ a.toNat)
include ha

theorem cpuMapRead_fixed (h : c.mapper = .fixed) : cpuMapRead c a = .offset (fixedOffset c.prgBanks a.toNat) := by
  simp [cpuMapRead, ha, h]

theorem cpuMapRead_serial {m : SerialMapper} (h : c.mapper = .serial m) :
    cpuMapRead c a = .offset (m.prgOffset c.prgBanks a.toNat) := by
  simp [cpuMapRead, ha, h]

theorem cpuMapRead_lowBank {k : BitVec 4} (h : c.mapper = .lowBank k) :
    cpuMapRead c a =
      .offset ((if a.toNat < 0xC000 then k.toNat else c.prgBanks - 1) * 0x4000 + a.toNat % 0x4000) := by
  simp [cpuMapRead, ha, h]

theorem cpuMapRead_chrBank {k : BitVec 2} (h : c.mapper = .chrBank k) :
    cpuMapRead c a = .offset (fixedOffset c.prgBanks a.toNat) := by
  simp [cpuMapRead, ha, h]

theorem cpuMapRead_target {m : TargetMapper} (h : c.mapper = .target m) :
    cpuMapRead c a = .offset (m.prgOffset c.prgBanks a.toNat) := by
  simp [cpuMapRead, ha, h]

theorem cpuMapRead_combined {k l : BitVec 2} (h : c.mapper = .combined k l) :
    cpuMapRead c a = .offset (l.toNat * 0x8000 + a.toNat % 0x8000) := by
  simp [cpuMapRead, ha, h]

theorem cpuMapWrite_serial {m : SerialMapper} (h : c.mapper = .serial m) (v : Byte) :
    cpuMapWrite c a v = (.unclaimed, .serial (m.write a v)) := by
  simp [cpuMapWrite, ha, h]

theorem cpuMapWrite_lowBank {k : BitVec 4} (h : c.mapper = .lowBank k) (v : Byte) :
    cpuMapWrite c a v = (.unclaimed, .lowBank (v.extractLsb' 0 4)) := by
  simp [cpuMapWrite, ha, h]

theorem cpuMapWrite_chrBank {k : BitVec 2} (h : c.mapper = .chrBank k) (v : Byte) :
    cpuMapWrite c a v = (.unclaimed, .chrBank (v.extractLsb' 0 2)) := by
  simp [cpuMapWrite, ha, h]

theorem cpuMapWrite_target {m : TargetMapper} (h : c.mapper = .target m) (v : Byte) :
    cpuMapWrite c a v = (.unclaimed, .target (m.write a v)) := by
  simp [cpuMapWrite, ha, h]

theorem cpuMapWrite_combined {k l : BitVec 2} (h : c.mapper = .combined k l) (v : Byte) :
    cpuMapWrite c a v = (.unclaimed, .combined (v.extractLsb' 0 2) (v.extractLsb' 4 2)) := by
  simp [cpuMapWrite, ha, h]

/-- A write of the mapper's registers writes nothing else. -/
theorem memWrite_registers {s : State} {v : Byte} {w : MapWrite} {m : Mapper} (h : cpuMapWrite s.cart a v = (w, m)) :
    memWrite a v s = s.setMapper m := by
  rw [memWrite_mapper (by omega), h]

end

section
variable {c : Cartridge} {n : Nat} (hn : n < 0x2000) (hRom : 0 < c.chrBanks)
include hn hRom

theorem ppuMapRead_fixed (h : c.mapper = .fixed) : ppuMapRead c n = some n := by
  simp [ppuMapRead, hn, hRom.ne', h]

theorem ppuMapRead_serial {m : SerialMapper} (h : c.mapper = .serial m) : ppuMapRead c n = some (m.chrOffset n) := by
  simp [ppuMapRead, hn, hRom.ne', h]

theorem ppuMapRead_lowBank {k : BitVec 4} (h : c.mapper = .lowBank k) : ppuMapRead c n = some n := by
  simp [ppuMapRead, hn, hRom.ne', h]

theorem ppuMapRead_chrBank {k : BitVec 2} (h : c.mapper = .chrBank k) :
    ppuMapRead c n = some (k.toNat * 0x2000 + n) := by
  simp [ppuMapRead, hn, hRom.ne', h]

theorem ppuMapRead_target {m : TargetMapper} (h : c.mapper = .target m) : ppuMapRead c n = some (m.chrOffset n) := by
  simp [ppuMapRead, hn, hRom.ne', h]

theorem ppuMapRead_combined {k l : BitVec 2} (h : c.mapper = .combined k l) :
    ppuMapRead c n = some (k.toNat * 0x2000 + n) := by
  simp [ppuMapRead, hn, hRom.ne', h]

end

-- Offsets within the images

/-- The window of variants 0 and 3 lies in the program image (R150, R175). -/
theorem fixedOffset_lt_prgSize {c : Cartridge} (h : 1 ≤ c.prgBanks) (n : Nat) :
    fixedOffset c.prgBanks n < c.prgSize := by
  unfold fixedOffset Cartridge.prgSize
  split <;> omega

/-- The character image holds 8 KiB at least. -/
theorem lt_chrSize {c : Cartridge} {n : Nat} (hn : n < 0x2000) : n < c.chrSize := by
  unfold Cartridge.chrSize
  omega

/-- A byte of a present 16 KiB program bank lies in the image. -/
theorem prgBank_lt_prgSize {c : Cartridge} {k : Nat} (h : k < c.prgBanks) (n : Nat) :
    k * 0x4000 + n % 0x4000 < c.prgSize := by
  unfold Cartridge.prgSize
  omega

/-- A byte of a present 8 KiB character bank lies in the image. -/
theorem chrBank_lt_chrSize {c : Cartridge} {k n : Nat} (h : k < c.chrBanks) (hn : n < 0x2000) :
    k * 0x2000 + n < c.chrSize := by
  unfold Cartridge.chrSize
  omega

-- Bit fields as numbers

/-- A bit field, in plain arithmetic. -/
theorem extractLsb'_toNat_div {w : Nat} (x : BitVec w) (i n : Nat) :
    (x.extractLsb' i n).toNat = x.toNat / 2 ^ i % 2 ^ n := by
  rw [BitVec.extractLsb'_toNat, Nat.shiftRight_eq_div_pow]

theorem getLsbD_zero_eq {w : Nat} (x : BitVec w) : x.getLsbD 0 = decide (x.toNat % 2 = 1) :=
  Nat.testBit_zero x.toNat

theorem getLsbD_seven_eq (v : Byte) : v.getLsbD 7 = decide (128 ≤ v.toNat) := v.msb_eq_decide

/-- The low field of a number's bits is the number's low bits. -/
theorem extractLsb'_ofNat {k w : Nat} (h : k ≤ w) (n : Nat) :
    (BitVec.ofNat w n).extractLsb' 0 k = BitVec.ofNat k n := by
  rw [← BitVec.setWidth_eq_extractLsb' h, BitVec.setWidth_ofNat_of_le h]

/-- Bit 14 of an address tells the halves of the program window apart. -/
theorem xor_bit14 {a : Word} (ha : 0x8000 ≤ a.toNat) :
    0x8000 ≤ (a ^^^ 0x4000).toNat ∧ (a ^^^ 0x4000).toNat % 0x4000 = a.toNat % 0x4000 := by
  have hMsb : (a ^^^ 0x4000).msb = a.msb := by
    rw [BitVec.msb_xor, show (0x4000 : Word).msb = false from rfl, Bool.xor_false]
  rw [BitVec.msb_eq_decide, BitVec.msb_eq_decide, decide_eq_decide] at hMsb
  refine ⟨hMsb.mpr ha, ?_⟩
  rw [BitVec.toNat_xor, show (0x4000 : Nat) = 2 ^ 14 from rfl, Nat.xor_mod_two_pow]
  simp

/-- The field `a[14:13]` of an address in the program window numbers the four 8 KiB ranges of the window. -/
theorem registerRange_eq {a : Word} {k : Nat} (hLo : 0x8000 + k * 0x2000 ≤ a.toNat)
    (hHi : a.toNat < 0x8000 + (k + 1) * 0x2000) : a.extractLsb' 13 2 = BitVec.ofNat 2 k := by
  apply BitVec.eq_of_toNat_eq
  rw [extractLsb'_toNat_div, BitVec.toNat_ofNat]
  have := a.isLt
  omega

end Sys2Proof.Machine
end

section
/-! SUPPORT. Variant 1: its serial loader and its windows (`21_cartridge_mappers.md` R160 to R163). -/
namespace Sys2Proof.Machine

/-- The loader after bit 0 of a byte has been shifted in at the top (R163). -/
def SerialMapper.shiftIn (load : BitVec 5) (v : Byte) : BitVec 5 := (load >>> 1) ||| ((v.setWidth 5 &&& 1) <<< 4)

/-- The register `sel` written with a full loader (R163). -/
def SerialMapper.setRegister (sel : BitVec 2) (w : BitVec 5) (m : SerialMapper) : SerialMapper :=
  match sel with
  | 0 => { m with control := w, mirror := serialMirroring (w.extractLsb' 0 2) }
  | 1 => { m with chrLo := w }
  | 2 => { m with chrHi := w }
  | _ => { m with prg := w.extractLsb' 0 4 }

/-- Each of the five bits moves down one place and the new bit enters at weight 16. -/
theorem SerialMapper.shiftIn_toNat (load : BitVec 5) (v : Byte) :
    (SerialMapper.shiftIn load v).toNat = load.toNat / 2 + 16 * (v.toNat % 2) := by
  have hLoad := load.isLt
  have hTop : ((v.setWidth 5 &&& 1) <<< 4).toNat = (v.toNat % 2) <<< 4 := by
    rw [BitVec.toNat_shiftLeft, BitVec.toNat_and, BitVec.toNat_setWidth]
    change ((v.toNat % 2 ^ 5) &&& 1) <<< 4 % 2 ^ 5 = _
    rw [Nat.and_one_is_mod, Nat.shiftLeft_eq, Nat.shiftLeft_eq]
    omega
  rw [SerialMapper.shiftIn, BitVec.toNat_or, hTop, BitVec.toNat_ushiftRight, Nat.shiftRight_eq_div_pow, Nat.or_comm,
    ← Nat.shiftLeft_add_eq_or_of_lt (by omega), Nat.shiftLeft_eq]
  omega

section
variable {m : SerialMapper} {v : Byte}

/-- A write with bit 7 set empties the loader and sets PRG mode 3. -/
theorem SerialMapper.write_reset (hv : 128 ≤ v.toNat) (a : Word) :
    m.write a v = { m with load := 0, loadCount := 0, control := m.control ||| 0x0C } := by
  rw [SerialMapper.write, if_pos (by rw [getLsbD_seven_eq, decide_eq_true hv])]

/-- Before its fifth bit the loader takes a bit and counts it. -/
theorem SerialMapper.write_shift (hv : v.toNat < 128) (hCount : m.loadCount < 4) (a : Word) :
    m.write a v = { m with load := SerialMapper.shiftIn m.load v, loadCount := m.loadCount + 1 } := by
  rw [SerialMapper.write, if_neg (by rw [getLsbD_seven_eq, decide_eq_true_iff]; omega)]
  dsimp only
  rw [if_neg (by omega)]
  rfl

/-- The fifth bit loads a register and empties the loader. -/
theorem SerialMapper.write_fifth (hv : v.toNat < 128) (hCount : m.loadCount = 4) (a : Word) :
    m.write a v = SerialMapper.setRegister (a.extractLsb' 13 2) (SerialMapper.shiftIn m.load v)
      { m with load := 0, loadCount := 0 } := by
  rw [SerialMapper.write, if_neg (by rw [getLsbD_seven_eq, decide_eq_true_iff]; omega)]
  dsimp only
  rw [if_pos (by omega)]
  rfl

end

/-- What five writes put in the register that the fifth one selects, the first bit lowest (R163). -/
theorem SerialMapper.write_five {m : SerialMapper} {v0 v1 v2 v3 v4 : Byte} (hCount : m.loadCount = 0)
    (h0 : v0.toNat < 128) (h1 : v1.toNat < 128) (h2 : v2.toNat < 128) (h3 : v3.toNat < 128) (h4 : v4.toNat < 128)
    (a0 a1 a2 a3 a4 : Word) :
    ((((m.write a0 v0).write a1 v1).write a2 v2).write a3 v3).write a4 v4 =
      SerialMapper.setRegister (a4.extractLsb' 13 2) (BitVec.ofNat 5 (v0.toNat % 2 + 2 * (v1.toNat % 2) +
        4 * (v2.toNat % 2) + 8 * (v3.toNat % 2) + 16 * (v4.toNat % 2))) { m with load := 0, loadCount := 0 } := by
  rw [SerialMapper.write_shift h0 (by omega), SerialMapper.write_shift h1 (by dsimp only; omega),
    SerialMapper.write_shift h2 (by dsimp only; omega), SerialMapper.write_shift h3 (by dsimp only; omega),
    SerialMapper.write_fifth h4 (by dsimp only; omega)]
  congr 1
  have := m.load.isLt
  apply BitVec.eq_of_toNat_eq
  simp only [SerialMapper.shiftIn_toNat, BitVec.toNat_ofNat]
  omega

/-- The mirroring that the low two bits of a value for `control` select (R160). -/
theorem serialMirroring_ofNat (n : Nat) :
    serialMirroring ((BitVec.ofNat 5 n).extractLsb' 0 2) =
      if n % 4 = 0 then .onescreenLo else if n % 4 = 1 then .onescreenHi else if n % 4 = 2 then .vertical
      else .horizontal := by
  have hSel : BitVec.ofNat 2 n = BitVec.ofNat 2 (n % 4) := BitVec.eq_of_toNat_eq (by simp)
  rw [extractLsb'_ofNat (by decide), hSel]
  have hLt : n % 4 < 4 := Nat.mod_lt _ (by decide)
  generalize n % 4 = k at hLt ⊢
  interval_cases k <;> rfl

/-- A write of the program window reaches the loader. -/
theorem memWrite_serial {s : State} {m : SerialMapper} (hm : s.cart.mapper = .serial m) {a : Word}
    (ha : 0x8000 ≤ a.toNat) (v : Byte) : (memWrite a v s).cart.mapper = .serial (m.write a v) := by
  rw [memWrite_registers ha (cpuMapWrite_serial ha hm v)]
  rfl

-- The windows

theorem SerialMapper.prgWindowMode_toNat (m : SerialMapper) : m.prgWindowMode.toNat = m.control.toNat / 4 % 4 :=
  extractLsb'_toNat_div m.control 2 2

theorem SerialMapper.chrSplit_eq (m : SerialMapper) : m.chrSplit = decide (16 ≤ m.control.toNat) :=
  m.control.msb_eq_decide

section
variable {m : SerialMapper} (banks a : Nat)

/-- PRG modes 0 and 1: one window. -/
theorem SerialMapper.prgOffset_wide (h : m.control.toNat / 4 % 4 < 2) :
    m.prgOffset banks a = m.prg.toNat / 2 * 0x8000 + a % 0x8000 := by
  rw [SerialMapper.prgOffset, SerialMapper.prgWindowMode_toNat, if_pos h]
  rfl

/-- PRG mode 2: the first bank and the selected one. -/
theorem SerialMapper.prgOffset_mode2 (h : m.control.toNat / 4 % 4 = 2) :
    m.prgOffset banks a = (if a < 0xC000 then 0 else m.prg.toNat) * 0x4000 + a % 0x4000 := by
  have hMode : m.prgWindowMode = 2 := BitVec.eq_of_toNat_eq (m.prgWindowMode_toNat.trans h)
  simp [SerialMapper.prgOffset, SerialMapper.prgSelectLow, SerialMapper.prgSelectHigh, hMode]

/-- PRG mode 3: the selected bank and the last one. -/
theorem SerialMapper.prgOffset_mode3 (h : m.control.toNat / 4 % 4 = 3) :
    m.prgOffset banks a = (if a < 0xC000 then m.prg.toNat else banks - 1) * 0x4000 + a % 0x4000 := by
  have hMode : m.prgWindowMode = 3 := BitVec.eq_of_toNat_eq (m.prgWindowMode_toNat.trans h)
  simp [SerialMapper.prgOffset, SerialMapper.prgSelectLow, SerialMapper.prgSelectHigh, hMode]

/-- The character windows of both CHR modes. -/
theorem SerialMapper.chrOffset_eq {n : Nat} (hn : n < 0x2000) :
    m.chrOffset n = if m.control.toNat < 16 then m.chrLo.toNat / 2 * 0x2000 + n
      else if n < 0x1000 then m.chrLo.toNat * 0x1000 + n else m.chrHi.toNat * 0x1000 + (n - 0x1000) := by
  unfold SerialMapper.chrOffset SerialMapper.chrSelectLow SerialMapper.chrSelectHigh SerialMapper.chrSelectWide
  rw [SerialMapper.chrSplit_eq]
  by_cases hMode : m.control.toNat < 16
  · rw [if_neg (by simpa using hMode), if_pos hMode, Nat.mod_eq_of_lt hn]
  · rw [if_pos (by simpa using hMode), if_neg hMode]
    split <;> omega

end

end Sys2Proof.Machine
end

section
/-! SUPPORT. Variant 4: its register map, its windows and its scanline counter (`21_cartridge_mappers.md` R180 to
R184). -/
namespace Sys2Proof.Machine

/-- A write of the selected bank register writes that one alone. -/
theorem TargetMapper.writeTarget_regs (m : TargetMapper) (v : Byte) :
    (m.writeTarget v).regs = m.regs.set m.target.toNat v ∧ m.writeTarget v = m.withRegsOf (m.writeTarget v) := by
  unfold TargetMapper.writeTarget
  split
  case h_8 h0 h1 h2 h3 h4 h5 h6 =>
    have hTarget : m.target = 7 := port_eq_seven h0 h1 h2 h3 h4 h5 h6
    exact ⟨by rw [hTarget]; rfl, rfl⟩
  all_goals
    rename_i hTarget
    exact ⟨by rw [hTarget]; rfl, rfl⟩

/-- A write of the program window reaches the register map. -/
theorem memWrite_target {s : State} {m : TargetMapper} (hm : s.cart.mapper = .target m) {a : Word}
    (ha : 0x8000 ≤ a.toNat) (v : Byte) : (memWrite a v s).cart.mapper = .target (m.write a v) := by
  rw [memWrite_registers ha (cpuMapWrite_target ha hm v)]
  rfl

/-- A write in the program window, range by range and at even and odd addresses (R183). -/
theorem TargetMapper.write_registers (m : TargetMapper) {a : Word} (ha : 0x8000 ≤ a.toNat) (v : Byte) :
    let even := a.toNat % 2 = 0
    let range := (a.toNat - 0x8000) / 0x2000
    let u := m.write a v
    (range = 0 ∧ even →
      u = { m with target := v.extractLsb' 0 3, prgMode := v.getLsbD 6, chrInv := v.getLsbD 7 }) ∧
    (range = 0 ∧ ¬even → u = m.writeTarget v) ∧
    (range = 1 ∧ even → u = { m with mirror := if v.getLsbD 0 then .horizontal else .vertical }) ∧
    (range = 1 ∧ ¬even → u = m) ∧
    (range = 2 ∧ even → u = { m with irqReload := v }) ∧
    (range = 2 ∧ ¬even → u = { m with irqCounter := 0 }) ∧
    (range = 3 ∧ even → u = { m with irqEnable := false, irqActive := false }) ∧
    (range = 3 ∧ ¬even → u = { m with irqEnable := true }) := by
  dsimp only
  have hRange {k : Nat} (h : (a.toNat - 0x8000) / 0x2000 = k) : a.extractLsb' 13 2 = BitVec.ofNat 2 k :=
    registerRange_eq (by omega) (by omega)
  have hParity : a.getLsbD 0 = !decide (a.toNat % 2 = 0) := by
    rw [getLsbD_zero_eq, ← decide_not, decide_eq_decide]
    omega
  unfold TargetMapper.write
  -- In each of the eight cases the range and the parity pick the arm.
  refine ⟨?_, ?_, ?_, ?_, ?_, ?_, ?_, ?_⟩ <;> rintro ⟨hk, hEven⟩ <;> rw [hRange hk, hParity] <;>
    simp only [hEven, decide_true, decide_false] <;> rfl

-- The windows

/-- A read in the program window shows the 8 KiB bank that the mode and the registers give, where it is present. -/
theorem memRead_targetBank {s : State} {m : TargetMapper} (hm : s.cart.mapper = .target m) {a : Word}
    (ha : 0x8000 ≤ a.toNat) {bank : Nat}
    (hBank : m.prgOffset s.cart.prgBanks a.toNat = bank * 0x2000 + a.toNat % 0x2000)
    (hImage : bank < 2 * s.cart.prgBanks) :
    memRead a s = (s.byteAt (.prg (bank * 0x2000 + a.toNat % 0x2000)), s) := by
  refine memRead_program ((cpuMapRead_target ha hm).trans (congrArg _ hBank)) ?_
  unfold Cartridge.prgSize
  omega

/-- The bank in each of the four windows (R181). -/
theorem TargetMapper.prgOffset_windows (m : TargetMapper) (banks a : Nat) :
    (a < 0xA000 → m.prgOffset banks a =
      (if m.prgMode = true then 2 * banks - 2 else m.r6.toNat % 64) * 0x2000 + a % 0x2000) ∧
    (0xA000 ≤ a ∧ a < 0xC000 → m.prgOffset banks a = m.r7.toNat % 64 * 0x2000 + a % 0x2000) ∧
    (0xC000 ≤ a ∧ a < 0xE000 → m.prgOffset banks a =
      (if m.prgMode = true then m.r6.toNat % 64 else 2 * banks - 2) * 0x2000 + a % 0x2000) ∧
    (0xE000 ≤ a → m.prgOffset banks a = (2 * banks - 1) * 0x2000 + a % 0x2000) := by
  have hLast : banks * 2 - 1 = 2 * banks - 1 := by omega
  have hSecond : 2 * banks - 1 - 1 = 2 * banks - 2 := by omega
  unfold TargetMapper.prgOffset
  dsimp only
  rw [hLast, hSecond]
  refine ⟨fun h => ?_, fun ⟨hLo, hHi⟩ => ?_, fun ⟨hLo, hHi⟩ => ?_, fun h => ?_⟩
  · rw [if_pos h]
  · rw [if_neg (by omega), if_pos hHi]
  · rw [if_neg (by omega), if_neg (by omega), if_pos hHi]
  · rw [if_neg (by omega), if_neg (by omega), if_neg (by omega)]

/-- The 1 KiB banks of registers 0 and 1, two each (R182). -/
def TargetMapper.pairBanks (m : TargetMapper) : List Nat :=
  [m.r0.toNat / 2 * 2, m.r0.toNat / 2 * 2 + 1, m.r1.toNat / 2 * 2, m.r1.toNat / 2 * 2 + 1]

/-- The 1 KiB banks of registers 2 to 5 (R182). -/
def TargetMapper.singleBanks (m : TargetMapper) : List Nat := [m.r2.toNat, m.r3.toNat, m.r4.toNat, m.r5.toNat]

/-- The banks of the eight character slices, in either layout (R182). -/
theorem TargetMapper.chrOffset_eq {m : TargetMapper} {n bank : Nat} (hn : n < 0x2000)
    (h : (if m.chrInv = true then m.singleBanks ++ m.pairBanks else m.pairBanks ++ m.singleBanks)[n / 0x400]? =
      some bank) : m.chrOffset n = bank * 0x400 + n % 0x400 := by
  have hSlice : m.chrSlice (if m.chrInv then (n / 0x400 + 4) % 8 else n / 0x400) = bank := by
    have hk : n / 0x400 < 8 := by omega
    generalize n / 0x400 = k at h hk ⊢
    generalize m.chrInv = inverted at h ⊢
    cases inverted <;> interval_cases k <;> exact Option.some.inj h
  rw [TargetMapper.chrOffset, hSlice]

-- The scanline counter

/-- The interrupt flag outlives every further call. -/
theorem TargetMapper.irqActive_iterate_scanline {m : TargetMapper} (h : m.irqActive = true) (n : Nat) :
    (TargetMapper.scanline^[n] m).irqActive = true := by
  induction n generalizing m with
  | zero => exact h
  | succ n ih =>
    rw [Function.iterate_succ_apply]
    exact ih (by simp [TargetMapper.scanline, h])

/-- From 0 and enabled, the first call reloads the counter and each later one takes one off, until the flag rises with
the counter at 0. -/
theorem TargetMapper.iterate_scanline {m : TargetMapper} (hCounter : m.irqCounter = 0) (hEnable : m.irqEnable = true)
    (hActive : m.irqActive = false) {n : Nat} (hn : n ≤ m.irqReload.toNat) :
    TargetMapper.scanline^[n + 1] m =
      { m with irqCounter := m.irqReload - BitVec.ofNat 8 n, irqActive := decide (n = m.irqReload.toNat) } := by
  induction n with
  | zero =>
    have hZero : m.irqReload = 0 ↔ 0 = m.irqReload.toNat := by bv_omega
    have hReload : m.irqReload - BitVec.ofNat 8 0 = m.irqReload := by bv_omega
    change m.scanline = _
    simp only [TargetMapper.scanline, hCounter, hEnable, hActive, hZero, hReload, if_true, Bool.false_or, Bool.and_true]
  | succ n ih =>
    rw [Function.iterate_succ_apply', ih (by omega)]
    have := m.irqReload.isLt
    have hNot : n ≠ m.irqReload.toNat := by omega
    have hPos : m.irqReload - BitVec.ofNat 8 n ≠ 0 := by bv_omega
    have hPred : m.irqReload - BitVec.ofNat 8 n - 1 = m.irqReload - BitVec.ofNat 8 (n + 1) := by bv_omega
    have hZero : m.irqReload - BitVec.ofNat 8 (n + 1) = 0 ↔ n + 1 = m.irqReload.toNat := by bv_omega
    simp only [TargetMapper.scanline, hEnable, hPos, hPred, hZero, hNot, if_false, decide_false, Bool.false_or,
      Bool.and_true]

/-- From 0 and enabled, the flag is set from the call numbered one more than the reload value on (R184). -/
theorem TargetMapper.irqActive_iterate_scanline_iff {m : TargetMapper} (hCounter : m.irqCounter = 0)
    (hEnable : m.irqEnable = true) (hActive : m.irqActive = false) (n : Nat) :
    (TargetMapper.scanline^[n] m).irqActive = decide (m.irqReload.toNat + 1 ≤ n) := by
  have hRun := fun {k : Nat} => TargetMapper.iterate_scanline hCounter hEnable hActive (n := k)
  by_cases hAfter : m.irqReload.toNat + 1 ≤ n
  · have hRises : (TargetMapper.scanline^[m.irqReload.toNat + 1] m).irqActive = true := by
      rw [hRun (Nat.le_refl _)]
      exact decide_eq_true rfl
    rw [decide_eq_true hAfter, ← Nat.sub_add_cancel hAfter, Function.iterate_add_apply]
    exact TargetMapper.irqActive_iterate_scanline hRises _
  · rw [decide_eq_false hAfter]
    cases n with
    | zero => exact hActive
    | succ k =>
      rw [hRun (by omega)]
      exact decide_eq_false (by omega)

end Sys2Proof.Machine
end

section
/-! PROOFS. The cartridge mappers. -/
open Sys2Proof Sys2Proof.Machine

/-- Settles O57: the one bank is mirrored since flipping bit 14 of the address keeps it modulo 0x4000. -/
theorem fixedMapperMirrorsOneBank : Obligations.FixedMapperMirrorsOneBank := by
  intro a v s hm ha
  refine ⟨fun n hn hRom => ?_, fun hOne => ?_, fun hMore => ?_, ?_⟩
  · exact ppuRead_character hn (ppuMapRead_fixed hn hRom hm) (lt_chrSize hn)
  · have hRead : ∀ b : Word, 0x8000 ≤ b.toNat → memRead b s = (s.byteAt (.prg (b.toNat % 0x4000)), s) := by
      intro b hb
      have hOffset : fixedOffset s.cart.prgBanks b.toNat = b.toNat % 0x4000 := by rw [fixedOffset, hOne]; rfl
      rw [memRead_program (cpuMapRead_fixed hb hm) (fixedOffset_lt_prgSize hOne.ge _), hOffset]
    obtain ⟨hMirror, hSame⟩ := xor_bit14 ha
    rw [hRead a ha, hRead _ hMirror, hSame]
    exact ⟨rfl, rfl⟩
  · have hOffset : fixedOffset s.cart.prgBanks a.toNat = a.toNat % 0x8000 := by rw [fixedOffset, if_pos hMore]
    rw [memRead_program (cpuMapRead_fixed ha hm) (fixedOffset_lt_prgSize hMore.le _), hOffset]
  · have hWrite : cpuMapWrite s.cart a v = (.claimed, s.cart.mapper) := by simp [cpuMapWrite, ha, hm]
    rw [memWrite_registers ha hWrite]
    rfl

/-- Settles O58: the write is reported unclaimed, which changes nothing in the fixed map, and leaves the mapper with the
selected bits. -/
theorem selectRegistersSwitchBanks : Obligations.SelectRegistersSwitchBanks := by
  intro a b v s ha hb
  dsimp only
  refine ⟨fun k hm => ?_, fun k hm hBanks => ?_, fun k l hm => ?_⟩
  · have hWrite := cpuMapWrite_lowBank ha hm v
    have hSel : (v.extractLsb' 0 4).toNat = v.toNat % 16 := by simp
    rw [memWrite_registers ha hWrite, hWrite]
    refine ⟨rfl, fun hLow hImage => memRead_program ?_ hImage, fun hHigh hBanks => memRead_program ?_ ?_,
      fun n hn hRom => ppuRead_character hn (ppuMapRead_lowBank hn hRom rfl) (lt_chrSize hn)⟩
    · rw [cpuMapRead_lowBank hb rfl, if_pos hLow, hSel]
    · rw [cpuMapRead_lowBank hb rfl, if_neg (by omega)]
      rfl
    · exact prgBank_lt_prgSize (Nat.sub_lt hBanks Nat.one_pos) _
  · have hWrite := cpuMapWrite_chrBank ha hm v
    have hSel : (v.extractLsb' 0 2).toNat = v.toNat % 4 := by simp
    rw [memWrite_registers ha hWrite, hWrite]
    refine ⟨rfl, memRead_program (cpuMapRead_chrBank hb rfl) (fixedOffset_lt_prgSize hBanks _),
      fun n hn hRom hIn => ppuRead_character hn ?_ (chrBank_lt_chrSize hIn hn)⟩
    rw [← hSel]
    refine ppuMapRead_chrBank hn ?_ rfl
    exact hRom
  · have hWrite := cpuMapWrite_combined ha hm v
    have hChr : (v.extractLsb' 0 2).toNat = v.toNat % 4 := by simp
    have hPrg : (v.extractLsb' 4 2).toNat = v.toNat / 16 % 4 := extractLsb'_toNat_div v 4 2
    rw [memWrite_registers ha hWrite, hWrite]
    refine ⟨rfl, fun hImage => memRead_program ?_ hImage,
      fun n hn hRom hIn => ppuRead_character hn ?_ (chrBank_lt_chrSize hIn hn)⟩
    · rw [cpuMapRead_combined hb rfl, hPrg]
    · rw [← hChr]
      refine ppuMapRead_combined hn ?_ rfl
      exact hRom

/-- Settles O59: the loader by `SerialMapper.write_five`, since the whole loader is shifted out; each window by the
offset of its mode. -/
theorem serialMapperLoadsAndBanks : Obligations.SerialMapperLoadsAndBanks := by
  refine ⟨fun m a0 a1 a2 a3 a4 v0 v1 v2 v3 v4 s hm hAddrs => ?_, fun m a n s hm => ?_⟩
  · simp only [List.forall_mem_cons, List.not_mem_nil, false_imp_iff, implies_true, and_true] at hAddrs
    obtain ⟨h0, h1, h2, h3, h4⟩ := hAddrs
    refine ⟨fun hv => ?_, fun hCount hBits => ?_⟩
    · rw [memWrite_serial hm h0, SerialMapper.write_reset hv]
    · simp only [List.forall_mem_cons, List.not_mem_nil, false_imp_iff, implies_true, and_true] at hBits
      obtain ⟨hv0, hv1, hv2, hv3, hv4⟩ := hBits
      dsimp only
      rw [memWrite_serial (memWrite_serial (memWrite_serial (memWrite_serial (memWrite_serial hm h0 v0) h1 v1) h2 v2)
        h3 v3) h4 v4, SerialMapper.write_five hCount hv0 hv1 hv2 hv3 hv4]
      generalize v0.toNat % 2 + 2 * (v1.toNat % 2) + 4 * (v2.toNat % 2) + 8 * (v3.toNat % 2) + 16 * (v4.toNat % 2) = n
      refine ⟨fun hHi => ?_, fun ⟨hLo, hHi⟩ => ?_, fun ⟨hLo, hHi⟩ => ?_, fun hLo => ?_⟩
      · rw [registerRange_eq (k := 0) h4 hHi, ← serialMirroring_ofNat]
        rfl
      · rw [registerRange_eq (k := 1) hLo hHi]
        rfl
      · rw [registerRange_eq (k := 2) hLo hHi]
        rfl
      · rw [registerRange_eq (k := 3) hLo a4.isLt, ← extractLsb'_ofNat (show 4 ≤ 5 by decide)]
        rfl
  · dsimp only
    refine ⟨fun ha hMode hImage => memRead_program ?_ hImage, fun ⟨ha, hHi⟩ hMode hImage => memRead_program ?_ hImage,
      fun ha hMode hImage => memRead_program ?_ hImage, fun ⟨ha, hHi⟩ hMode hImage => memRead_program ?_ hImage,
      fun ha hMode hImage => memRead_program ?_ hImage, fun ⟨hLo, hHi⟩ => memRead_cram (by rw [hm]; rfl) hLo hHi,
      fun hn hRom hImage => ppuRead_character hn ?_ hImage⟩
    · rw [cpuMapRead_serial ha hm, SerialMapper.prgOffset_wide _ _ hMode]
    · rw [cpuMapRead_serial ha hm, SerialMapper.prgOffset_mode2 _ _ hMode, if_pos hHi, Nat.zero_mul, Nat.zero_add]
    · rw [cpuMapRead_serial (by omega) hm, SerialMapper.prgOffset_mode2 _ _ hMode, if_neg (by omega)]
    · rw [cpuMapRead_serial ha hm, SerialMapper.prgOffset_mode3 _ _ hMode, if_pos hHi]
    · rw [cpuMapRead_serial (by omega) hm, SerialMapper.prgOffset_mode3 _ _ hMode, if_neg (by omega)]
    · rw [ppuMapRead_serial hn hRom hm, SerialMapper.chrOffset_eq hn]

/-- Settles O60: the registers by `TargetMapper.write_registers`, the windows by the offset in each, and the counter by
its state after every number of calls. -/
theorem targetMapperBanksAndScanlineCounter : Obligations.TargetMapperBanksAndScanlineCounter := by
  refine ⟨fun m a v s hm ha => ⟨m.write a v, memWrite_target hm ha v, ?_⟩, fun m a s hm hBanks => ?_,
    fun m n s hm hn hRom => ?_, fun m n hCounter hEnable hActive => ?_⟩
  · obtain ⟨hSelect, hTarget, hMirror, hNone, hReload, hClear, hDisable, hEnable⟩ := m.write_registers ha v
    have hBit : (v.getLsbD 0 = true) = (v.toNat % 2 = 1) := by rw [getLsbD_zero_eq, decide_eq_true_eq]
    simp only [hBit] at hMirror
    refine ⟨fun h => ?_, fun h => ?_, hMirror, hNone, hReload, hClear, hDisable, hEnable⟩
    · rw [hSelect h]
      exact ⟨rfl, extractLsb'_toNat_div v 0 3 |>.trans (by simp)⟩
    · rw [hTarget h]
      exact m.writeTarget_regs v
  · obtain ⟨hFirst, hSecond, hThird, hFourth⟩ := m.prgOffset_windows s.cart.prgBanks a.toNat
    exact ⟨fun ⟨ha, hHi⟩ hImage => memRead_targetBank hm ha (hFirst hHi) hImage,
      fun ⟨hLo, hHi⟩ hImage => memRead_targetBank hm (by omega) (hSecond ⟨hLo, hHi⟩) hImage,
      fun ⟨hLo, hHi⟩ hImage => memRead_targetBank hm (by omega) (hThird ⟨hLo, hHi⟩) hImage,
      fun hLo hImage => memRead_targetBank hm (by omega) (hFourth hLo) hImage,
      fun ⟨hLo, hHi⟩ => memRead_cram (by rw [hm]; rfl) hLo hHi⟩
  · intro pairs singles bank hBank hImage
    refine ppuRead_character hn ?_ hImage
    rw [ppuMapRead_target hn hRom hm, TargetMapper.chrOffset_eq hn hBank]
  · exact TargetMapper.irqActive_iterate_scanline_iff hCounter hEnable hActive n

end

section
/-! SUPPORT. The bytes of an operand, the opcode of an instruction, and the decoder on an opcode and the bytes of an
operand (`30_encoding.md` R201 to R203, R206, R207). -/
namespace Sys2Proof.Machine

-- The bytes of an operand

@[simp] theorem lo8_pair (hi lo : Byte) : lo8 (pair hi lo) = lo := BitVec.extractLsb'_append_eq_right

@[simp] theorem hi8_pair (hi lo : Byte) : hi8 (pair hi lo) = hi := BitVec.extractLsb'_append_eq_left

@[simp] theorem pair_hi8_lo8 (w : Word) : pair (hi8 w) (lo8 w) = w := by
  have h : pair (hi8 w) (lo8 w) = w.extractLsb' 0 16 := BitVec.extractLsb'_append_extractLsb'_eq_extractLsb' rfl
  rw [h, BitVec.extractLsb'_eq_self]

/-- Of the two bytes after the opcode an operand takes as many as its mode's length says, and leaves the others. -/
theorem bytes_ofBytes_append_drop (m : Mode) (b1 b2 : Byte) (rest : List Byte) :
    (Operand.ofBytes m b1 b2).bytes ++ ([b1, b2].drop (m.length - 1) ++ rest) = b1 :: b2 :: rest := by
  cases m <;> simp [Operand.ofBytes, Operand.bytes, Mode.length]

/-- The decoder reads an operand of the opcode's mode back from its bytes and leaves what follows them. -/
theorem decode_opcode_bytes {p : Params} {b : Byte} {o : Operand} (h : (p.entry b).mode = o.mode)
    (rest : List Byte) : decode p (b :: (o.bytes ++ rest)) = .ok ((p.entry b).op.instr b o, rest) := by
  cases o <;> simp [decode, decodeBytes, h, Operand.mode, Mode.length, Operand.bytes, Operand.ofBytes]

-- The opcode of an instruction

section
variable {i : Instr}

/-- A documented instruction takes its opcode from the lists of R206. -/
theorem opcode_of_documented (h : i.op ≠ .xxx) : i.opcode = i.op.opcode i.operand.mode := by
  cases i with
  | xxx => exact absurd rfl h
  | _ => rfl

/-- A documented instruction is well-formed when the lists of R206 have its mode, under any parameters. -/
theorem wellFormed_of_documented (h : i.op ≠ .xxx) (p : Params) : i.wellFormed p = i.modeAllowed := by
  cases i with
  | xxx => exact absurd rfl h
  | _ => rfl

/-- The bytes of an instruction are its opcode and then those of its operand. -/
theorem encode_eq_some {bytes : List Byte} (h : encode i = some bytes) :
    ∃ b : Byte, i.opcode = some b ∧ bytes = b :: i.operand.bytes := by
  obtain ⟨b, hb, rfl⟩ := Option.map_eq_some_iff.mp h
  exact ⟨b, hb, rfl⟩

/-- An instruction is made of its operation, its opcode and its operand. -/
theorem instr_op_operand {b : Byte} (h : i.opcode = some b) : i.op.instr b i.operand = i := by
  cases i with
  | xxx c o => exact congrArg (Instr.xxx · o) (Option.some.inj h).symm
  | _ => rfl

end

/-- An operation keeps an operand whose mode it has an opcode for: those that carry no operand have IMP alone. -/
theorem operand_instr {op : Op} {o : Operand} {b : Byte} (h : op.opcode o.mode = some b) (c : Byte) :
    (op.instr c o).operand = o := by
  cases o with
  | imp => cases op <;> rfl
  | _ => cases op <;> first | rfl | exact nomatch h -- the operation carries the operand, or has no such opcode

/-- Each documented row of the matrix is in the lists with its own byte, so that no two rows share operation and mode
(R206, R209). -/
theorem opcode_tableEntry : ∀ b : Byte, (tableEntry b).op ≠ .xxx →
    (tableEntry b).op.opcode (tableEntry b).mode = some b := by decide +kernel

/-- The per-instruction statement on encodings, of every instruction at once. -/
theorem encodedLength_statement (i : Instr) : Laws.EncodedLength.Statement i := by
  by_cases hi : i.op = .xxx
  · obtain ⟨b, o, rfl⟩ := op_eq_xxx hi
    exact Laws.EncodedLength.xxx b o
  · exact Laws.EncodedLength.documented i (opcode_of_documented hi)
      fun p h => (wellFormed_of_documented hi p).symm.trans h

-- The decoded instruction

@[simp] theorem op_decodeBytes (p : Params) (b0 b1 b2 : Byte) : (decodeBytes p b0 b1 b2).op = (p.entry b0).op :=
  op_instr _ _ _

/-- What three bytes decode to, and what is left of them. -/
theorem decode_three_bytes (p : Params) (b0 b1 b2 : Byte) (rest : List Byte) :
    decode p (b0 :: b1 :: b2 :: rest) =
      .ok (decodeBytes p b0 b1 b2, [b1, b2].drop ((p.entry b0).mode.length - 1) ++ rest) := by
  rw [← bytes_ofBytes_append_drop (p.entry b0).mode b1 b2 rest]
  exact decode_opcode_bytes (mode_ofBytes _ b1 b2).symm _

/-- The decoded instruction is well-formed (R203, R207). -/
theorem decodeBytes_wellFormed (p : Params) (b0 b1 b2 : Byte) : (decodeBytes p b0 b1 b2).wellFormed p = true := by
  by_cases hb : (p.entry b0).op = .xxx
  · have hTable : (tableEntry b0).op = .xxx := Laws.EncodedLength.entry_op p b0 ▸ hb
    rw [decodeBytes_undocumented hb]
    simp [Instr.wellFormed, undocumented, undefModeAgrees, hTable]
  · have hi : (decodeBytes p b0 b1 b2).op ≠ .xxx := op_decodeBytes p b0 b1 b2 ▸ hb
    rw [wellFormed_of_documented hi, decodeBytes_modeAllowed hb]

/-- The bytes of the decoded instruction are the opcode byte and those of the operand read. -/
theorem encode_decodeBytes (p : Params) (b0 b1 b2 : Byte) :
    encode (decodeBytes p b0 b1 b2) = some (b0 :: (Operand.ofBytes (p.entry b0).mode b1 b2).bytes) := by
  by_cases hb : (p.entry b0).op = .xxx
  · rw [decodeBytes_undocumented hb]
    rfl
  · have hTable : (tableEntry b0).op ≠ .xxx := Laws.EncodedLength.entry_op p b0 ▸ hb
    have hRow : (p.entry b0).op.opcode (Operand.ofBytes (p.entry b0).mode b1 b2).mode = some b0 := by
      rw [mode_ofBytes, Laws.EncodedLength.entry_documented hTable, opcode_tableEntry b0 hTable]
    have hi : (decodeBytes p b0 b1 b2).op ≠ .xxx := op_decodeBytes p b0 b1 b2 ▸ hb
    have hOperand : (decodeBytes p b0 b1 b2).operand = Operand.ofBytes (p.entry b0).mode b1 b2 :=
      operand_instr hRow b0
    rw [encode, opcode_of_documented hi, hOperand, decodeBytes, op_instr, hRow]
    rfl

end Sys2Proof.Machine
end

section
/-! PROOFS. The encoding. -/
open Sys2Proof Sys2Proof.Machine

/-- Settles O2: the opcode of a well-formed instruction has the row of its operation and mode, so the decoder reads its
operand back, and an instruction is made of its operation, opcode and operand. -/
theorem decodeOfEncodeIsTheInstruction : Obligations.DecodeOfEncodeIsTheInstruction := by
  intro p i rest hi
  obtain ⟨_, _, hEncode, -, hOp, hMode⟩ := encodedLength_statement i p hi
  obtain ⟨b, hOpcode, hBytes⟩ := encode_eq_some hEncode
  obtain ⟨rfl, rfl⟩ := List.cons.inj hBytes
  refine ⟨_, hEncode, ?_⟩
  rw [List.cons_append, decode_opcode_bytes hMode, hOp, instr_op_operand hOpcode]

/-- Settles O3: the operand takes its bytes from the input and leaves the others, and no two rows of the matrix share
operation and mode, so that the opcode byte comes back. -/
theorem encodeOfDecodeIsTheBytes : Obligations.EncodeOfDecodeIsTheBytes := by
  intro p b0 b1 b2 rest
  refine ⟨_, _, _, decode_three_bytes p b0 b1 b2 rest, decodeBytes_wellFormed p b0 b1 b2,
    encode_decodeBytes p b0 b1 b2, congrArg (b0 :: ·) (bytes_ofBytes_append_drop _ b1 b2 rest), ?_⟩
  rw [List.length_cons, Laws.EncodedLength.operand_bytes_length, mode_ofBytes]

/-- Settles O1: the decoder evaluates on each word, since a documented row of the matrix does not look at the
parameters. -/
theorem writtenWordsDecode : Obligations.WrittenWordsDecode := by
  intro p
  and_intros <;> rfl

end

section
/-! SUPPORT. No part of a step can stop the machine (`40_addressing_modes.md` R259). -/
namespace Sys2Proof.Machine

theorem thenDo_next {r : Result} (h : ∃ t : State, r = .next t) (f : State → State) :
    ∃ t : State, thenDo f r = .next t := by
  obtain ⟨t, rfl⟩ := h
  exact ⟨f t, rfl⟩

theorem cpuStep_next (s : State) : ∃ t : State, cpuStep s = .next t := by
  unfold cpuStep
  split
  · exact thenDo_next (exec_next _ _) _
  · exact ⟨_, rfl⟩

theorem slotStep_next (s u : State) : ∃ t : State, slotStep s u = .next t := by
  unfold slotStep
  split
  · exact ⟨_, rfl⟩
  · split
    · exact cpuStep_next u
    · exact ⟨_, rfl⟩

/-- No step faults and none is refused (R259). -/
theorem step_next (s : State) : ∃ t : State, step s = .next t := thenDo_next (slotStep_next _ _) _

theorem core_run_succ {s t : State} (h : step s = .next t) (k : Nat) :
    Sys2Proof.core.run (k + 1) s = Sys2Proof.core.run k t := by
  have h' : Sys2Proof.core.step s = .next t := h
  simp only [Host.Core.run, h']

end Sys2Proof.Machine
end

section
/-! SUPPORT. What the addressing modes and the operand fetch compute, in numbers, and what they leave unchanged
(`40_addressing_modes.md` R232 to R250). -/
namespace Sys2Proof.Machine

-- Words and bytes as numbers

theorem pair_toNat (hi lo : Byte) : (pair hi lo).toNat = lo.toNat + 256 * hi.toNat := by
  rw [pair, BitVec.toNat_append, ← Nat.shiftLeft_add_eq_or_of_lt lo.isLt, Nat.shiftLeft_eq]
  omega

theorem hi8_toNat (w : Word) : (hi8 w).toNat = w.toNat / 256 := by
  have h := w.isLt
  rw [hi8, extractLsb'_toNat_div]
  omega

theorem zext16_toNat (b : Byte) : (zext16 b).toNat = b.toNat := BitVec.toNat_setWidth_of_le (by decide)

theorem sext16_toInt (b : Byte) : (sext16 b).toInt = b.toInt := BitVec.toInt_signExtend_of_le (by decide)

-- The addressing modes

theorem indexed_addr_toNat (w : Word) (i : Byte) : (indexed w i).addr.toNat = (w.toNat + i.toNat) % 65536 := by
  simp [indexed, zext16_toNat]

/-- The page crosses when the index carries out of the low byte (R239). -/
theorem indexed_crossed_iff (w : Word) (i : Byte) : (indexed w i).crossed = true ↔ 256 ≤ w.toNat % 256 + i.toNat := by
  have hw := w.isLt
  have hi := i.isLt
  have hSum : (w + zext16 i).toNat = (w.toNat + i.toNat) % 65536 := indexed_addr_toNat w i
  simp only [indexed, decide_eq_true_eq, ne_eq, ← BitVec.toNat_inj, hi8_toNat, hSum]
  omega

/-- The word of two bytes of work RAM in page zero, the high one at the next address modulo 256 (R245, R246, D13). -/
theorem zeroPagePointer_eq (b : Byte) (s : State) :
    zeroPagePointer b s = (pair (s.ram.read (b + 1).toNat) (s.ram.read b.toNat), s) := by
  have hRead : ∀ k : Byte, memRead (zext16 k) s = (s.ram.read k.toNat, s) := by
    intro k
    have hk := k.isLt
    rw [memRead_ram (by rw [zext16_toNat]; omega), zext16_toNat, Nat.mod_eq_of_lt (by omega)]
  simp only [zeroPagePointer, hRead]

/-- The pointer's bytes stand at its address and at the next, both modulo 256. -/
theorem zeroPagePointer_toNat (b : Byte) (s : State) : (zeroPagePointer b s).1.toNat =
    (s.ram.read (b.toNat % 256)).toNat + 256 * (s.ram.read ((b.toNat + 1) % 256)).toNat := by
  rw [zeroPagePointer_eq, pair_toNat, Nat.mod_eq_of_lt b.isLt, BitVec.toNat_add]
  rfl

theorem applyMode_izx (b : Byte) (s : State) : applyMode (.izx b) s =
    { crossed := false, state := s.setAddrAbs (zeroPagePointer (b + s.cpu.x) s).1 } := by
  simp only [applyMode, zeroPagePointer_eq]

theorem applyMode_izy (b : Byte) (s : State) : applyMode (.izy b) s =
    { crossed := (indexed (zeroPagePointer b s).1 s.cpu.y).crossed,
      state := s.setAddrAbs (indexed (zeroPagePointer b s).1 s.cpu.y).addr } := by
  simp only [applyMode, zeroPagePointer_eq]

/-- No mode but IND, which reads its pointer over the whole bus, changes anything outside the CPU. -/
theorem applyMode_outsideCpu {o : Operand} (h : o.mode ≠ .ind) (s : State) : OutsideCpuAs s (applyMode o s).state := by
  cases o with
  | ind w => exact absurd rfl h
  | izx b => rw [applyMode_izx]; rfl
  | izy b => rw [applyMode_izy]; rfl
  | _ => rfl

/-- In the modes with an effective address the operand is what one bus read there answers (R250). -/
theorem readOperand_read {o : Operand} (hImp : o.mode ≠ .imp) (hImm : o.mode ≠ .imm) (s : State) :
    readOperand o s =
      let m := applyMode o s
      let r := memRead m.state.cpu.addrAbs m.state
      { value := r.1, crossed := m.crossed, state := r.2.setFetched r.1 } := by
  cases o with
  | imp => exact absurd rfl hImp
  | imm b => exact absurd rfl hImm
  | _ => rfl

/-- Only ABX, ABY and IZY report a page cross (R239, R240, R246). -/
theorem mode_of_crossed {o : Operand} {s : State} (h : (applyMode o s).crossed = true) :
    o.mode = .abx ∨ o.mode = .aby ∨ o.mode = .izy := by
  cases o with
  | abx w => exact .inl rfl
  | aby w => exact .inr (.inl rfl)
  | izy b => exact .inr (.inr rfl)
  | _ => exact Bool.noConfusion h

end Sys2Proof.Machine
end

section
/-! SUPPORT. The cost of every instruction but a branch (`40_addressing_modes.md` R255, R257). -/
namespace Sys2Proof.Machine

/-- The operations that return an extra cycle for a page cross: the loads, the additions, the logic operations and CMP
(R255). -/
def chargesCross : Op → Bool
  | .lda | .ldx | .ldy | .adc | .sbc | .and | .ora | .eor | .cmp => true
  | _ => false

/-- A documented instruction that is no branch ends with the page-cross report of its mode and no other extra cycle. -/
theorem exec_complete {i : Instr} (hi : i.op ≠ .xxx) (hBranch : maxExtra i.op = 1) (s : State) :
    ∃ u : State, exec i s = complete i.op i.operand (applyMode i.operand s).crossed (chargesCross i.op) 0 u := by
  cases i with
  | bcc o | bcs o | beq o | bne o | bmi o | bpl o | bvc o | bvs o => exact absurd hBranch (show ¬2 = 1 by decide)
  | xxx b o => exact absurd rfl hi
  | _ => exact ⟨_, rfl⟩

-- The rows of the matrix

/-- No branch has a mode other than REL (R206). -/
theorem maxExtra_tableEntry : ∀ b : Byte, (tableEntry b).mode ≠ .rel → maxExtra (tableEntry b).op = 1 := by
  decide +kernel

/-- The 23 opcodes of R257 are those whose operation charges a page cross and whose mode can report one. -/
theorem extraCycleOpcodes_iff : ∀ b : Byte, b ∈ extraCycleOpcodes ↔
    chargesCross (tableEntry b).op = true ∧
      ((tableEntry b).mode = .abx ∨ (tableEntry b).mode = .aby ∨ (tableEntry b).mode = .izy) := by
  decide +kernel

section
variable {p : Params} {b : Byte} (hb : (tableEntry b).op ≠ .xxx)
include hb

theorem opcode_entry : (p.entry b).op.opcode (p.entry b).mode = some b := by
  rw [Laws.EncodedLength.entry_documented hb, opcode_tableEntry b hb]

/-- The operand of a documented opcode byte is the one its mode takes from the bytes after it. -/
theorem operand_decodeBytes (b1 b2 : Byte) :
    (decodeBytes p b b1 b2).operand = Operand.ofBytes (p.entry b).mode b1 b2 :=
  operand_instr ((congrArg _ (mode_ofBytes _ b1 b2)).trans (opcode_entry hb)) b

theorem baseCycles_entry : baseCycles (p.entry b).op (p.entry b).mode = (p.entry b).base := by
  rw [baseCycles, opcode_entry hb, Laws.EncodedLength.entry_documented hb]

end

end Sys2Proof.Machine
end

section
/-! SUPPORT. The fetch as bus reads in address order, with what each leaves of the CPU, and the step it belongs to
(`40_addressing_modes.md` R230, R233, R256). -/
namespace Sys2Proof.Machine

/-- The CPU when `n` bytes of the instruction of opcode byte `b` are fetched: `b` in the opcode register, U set, PC past
them. -/
def Cpu.pastBytes (b : Byte) (n : Nat) (c : Cpu) : Cpu :=
  { c with opcode := b, p := c.p ||| 0x20, pc := c.pc + BitVec.ofNat 16 n }

/-- The read of the opcode byte. -/
def opcodeRead (s : State) : Byte × State := memRead s.cpu.pc s

/-- The read of the byte after the opcode. -/
def operandRead (s : State) : Byte × State := memRead (s.cpu.pc + 1) (opcodeRead s).2

/-- The read of the second byte after the opcode. -/
def secondOperandRead (s : State) : Byte × State := memRead (s.cpu.pc + 2) (operandRead s).2

/-- The entry of the opcode table of the byte at PC. -/
def entryAtPc (s : State) : TableEntry := s.params.entry (opcodeRead s).1

/-- The state after the reads of a fetch: one for each byte, but none for the operand of XXX in mode IMM. -/
def afterFetchReads (s : State) : State :=
  if (entryAtPc s).mode.length = 1 ∨ ((entryAtPc s).op = .xxx ∧ (entryAtPc s).mode = .imm) then (opcodeRead s).2
  else if (entryAtPc s).mode.length = 2 then (operandRead s).2 else (secondOperandRead s).2

theorem mode_length_cases (m : Mode) : m.length = 1 ∨ m.length = 2 ∨ m.length = 3 := by cases m <;> decide

/-- PC past one byte more is PC past the next number of bytes. -/
theorem Cpu.pastBytes_succ (b : Byte) (n : Nat) (c : Cpu) :
    { c.pastBytes b n with pc := (c.pastBytes b n).pc + 1 } = c.pastBytes b (n + 1) := by
  have hPc : c.pc + BitVec.ofNat 16 n + 1 = c.pc + BitVec.ofNat 16 (n + 1) := by
    rw [BitVec.add_assoc, BitVec.ofNat_add]
    rfl
  simp only [Cpu.pastBytes, hPc]

theorem fetchOpcode_eq (s : State) :
    fetchOpcode s = ((opcodeRead s).1, (opcodeRead s).2.setCpu (s.cpu.pastBytes (opcodeRead s).1 1)) := by
  obtain ⟨-, hCpu⟩ := memRead_afterReads s.cpu.pc s
  simp only [fetchOpcode, State.setPc, State.setFlag, State.setP, State.setOpcode, State.setCpu_cpu, hCpu]
  rfl

/-- A bus read at the next byte of the instruction, and PC past it. -/
theorem fetchByte_pastBytes (b : Byte) (n : Nat) (c : Cpu) (u : State) :
    fetchByte (u.setCpu (c.pastBytes b n)) =
      ((memRead (c.pc + BitVec.ofNat 16 n) u).1,
       (memRead (c.pc + BitVec.ofNat 16 n) u).2.setCpu (c.pastBytes b (n + 1))) := by
  rw [← Cpu.pastBytes_succ]
  simp only [fetchByte, memRead_setCpu]
  rfl

/-- The next byte of the instruction without the read's side effects, and PC past it. -/
theorem passByte_pastBytes (b : Byte) (n : Nat) (c : Cpu) (u : State) :
    passByte (u.setCpu (c.pastBytes b n)) =
      ((memRead (c.pc + BitVec.ofNat 16 n) u).1, u.setCpu (c.pastBytes b (n + 1))) := by
  rw [← Cpu.pastBytes_succ]
  simp only [passByte, memRead_setCpu]
  rfl

/-- The fetch: the bytes its mode takes, read in address order, and PC past them. -/
theorem fetch_eq (s : State) :
    fetch s = { opcode := (opcodeRead s).1
                b1 := if (entryAtPc s).mode.length = 1 then 0 else (operandRead s).1
                b2 := if (entryAtPc s).mode.length = 3 then (secondOperandRead s).1 else 0
                state := (afterFetchReads s).setCpu (s.cpu.pastBytes (opcodeRead s).1 (entryAtPc s).mode.length) } := by
  have hEntry : s.params.entry (opcodeRead s).1 = entryAtPc s := rfl
  have hOne : fetchByte ((opcodeRead s).2.setCpu (s.cpu.pastBytes (opcodeRead s).1 1)) =
      ((operandRead s).1, (operandRead s).2.setCpu (s.cpu.pastBytes (opcodeRead s).1 2)) :=
    fetchByte_pastBytes _ 1 _ _
  have hTwo : fetchByte ((operandRead s).2.setCpu (s.cpu.pastBytes (opcodeRead s).1 2)) =
      ((secondOperandRead s).1, (secondOperandRead s).2.setCpu (s.cpu.pastBytes (opcodeRead s).1 3)) :=
    fetchByte_pastBytes _ 2 _ _
  have hPass : passByte ((opcodeRead s).2.setCpu (s.cpu.pastBytes (opcodeRead s).1 1)) =
      ((operandRead s).1, (opcodeRead s).2.setCpu (s.cpu.pastBytes (opcodeRead s).1 2)) :=
    passByte_pastBytes _ 1 _ _
  simp only [fetch, fetchOpcode_eq, hEntry, hOne, hTwo, hPass, afterFetchReads, operandByteUnread, decide_eq_true_eq]
  generalize entryAtPc s = e
  rcases mode_length_cases e.mode with hLength | hLength | hLength
  · simp [hLength]
  · by_cases hUnread : e.mode = .imm ∧ e.op = .xxx
    · simp [hUnread, Mode.length]
    · simp [hLength, hUnread, and_comm]
  · have hImm : e.mode ≠ .imm := by
      intro h
      rw [h] at hLength
      contradiction
    simp [hLength, hImm]

/-- The decoder looks at no byte beyond the length of the opcode's mode. -/
theorem decodeBytes_congr {p : Params} {b b1 b2 c1 c2 : Byte} (h1 : 2 ≤ (p.entry b).mode.length → c1 = b1)
    (h2 : (p.entry b).mode.length = 3 → c2 = b2) : decodeBytes p b c1 c2 = decodeBytes p b b1 b2 := by
  have hBytes : ∀ m : Mode, (2 ≤ m.length → c1 = b1) → (m.length = 3 → c2 = b2) →
      Operand.ofBytes m c1 c2 = Operand.ofBytes m b1 b2 := by
    intro m h1 h2
    cases m <;> simp_all [Operand.ofBytes, Mode.length]
  rw [decodeBytes, hBytes _ h1 h2, decodeBytes]

/-- What the decoder leaves of three bytes are those the instruction does not take. -/
theorem decode_three_bytes_taken {p : Params} {b0 b1 b2 : Byte} {i : Instr} {rest : List Byte}
    (h : decode p [b0, b1, b2] = .ok (i, rest)) :
    i = decodeBytes p b0 b1 b2 ∧ 3 - rest.length = (p.entry b0).mode.length := by
  rw [decode_three_bytes] at h
  obtain ⟨rfl, rfl⟩ := Prod.mk.inj (Except.ok.inj h)
  refine ⟨rfl, ?_⟩
  rcases mode_length_cases (p.entry b0).mode with hLength | hLength | hLength <;> simp [hLength]

/-- The fetch where the reads have no side effect. -/
theorem fetch_pure {s : State} {b0 b1 b2 : Byte} (h0 : memRead s.cpu.pc s = (b0, s))
    (h1 : memRead (s.cpu.pc + 1) s = (b1, s)) (h2 : memRead (s.cpu.pc + 2) s = (b2, s)) :
    fetch s =
      let n := (s.params.entry b0).mode.length
      { opcode := b0, b1 := if n = 1 then 0 else b1, b2 := if n = 3 then b2 else 0,
        state := s.setCpu (s.cpu.pastBytes b0 n) } := by
  have hOpcode : opcodeRead s = (b0, s) := h0
  have hOperand : operandRead s = (b1, s) := by rw [operandRead, hOpcode, h1]
  have hSecond : secondOperandRead s = (b2, s) := by rw [secondOperandRead, hOperand, h2]
  rw [fetch_eq]
  simp [afterFetchReads, entryAtPc, hOpcode, hOperand, hSecond]

/-- A fetch step runs the decoded instruction, where reading its bytes has no side effect. -/
theorem fetchStep_pure {s : State} {b0 b1 b2 : Byte} {i : Instr} {rest : List Byte} (h0 : memRead s.cpu.pc s = (b0, s))
    (h1 : memRead (s.cpu.pc + 1) s = (b1, s)) (h2 : memRead (s.cpu.pc + 2) s = (b2, s))
    (hDecode : decode s.params [b0, b1, b2] = .ok (i, rest)) :
    fetchStep s = thenDo endFetchStep (exec i (s.setCpu (s.cpu.pastBytes b0 (3 - rest.length)))) := by
  obtain ⟨rfl, hLength⟩ := decode_three_bytes_taken hDecode
  rw [fetchStep, fetch_pure h0 h1 h2, hLength]
  dsimp only
  rw [decodeBytes_congr (fun h => if_neg (Nat.ne_of_gt h)) fun h => if_pos h]

/-- In a CPU slot with the counter at 0 and no transfer in progress a step is a fetch step after the PPU's clock. -/
theorem step_eq_fetchStep {s : State} (hDma : s.dma.transfer = false) (hSlot : s.clock % 3 = 0)
    (hCycles : s.cpu.cycles = 0) : step s = thenDo endTick (fetchStep (ppuClock { s with sink := none })) := by
  have hIdle : (ppuClock (s.setSink none)).cpu.cycles = 0 := by rw [ppuClock_cpu]; exact hCycles
  simp only [step, tick, slotStep, cpuStep, hDma, hSlot, hIdle]
  rfl

theorem ppuClock_params (s : State) : (ppuClock s).params = s.params := by rw [ppuClock_frame]

theorem endFetchStep_eq (s : State) : endFetchStep s =
    s.setCpu { s.cpu with
      p := s.cpu.p ||| 0x20,
      cycles := if s.params.fetchStepDecrements = true then s.cpu.cycles - 1 else s.cpu.cycles } := by
  unfold endFetchStep
  cases h : s.params.fetchStepDecrements <;> simp only [State.setFlag_params, h] <;> rfl

end Sys2Proof.Machine
end

section
/-! PROOFS. The addressing modes, the costs and the fetch step. -/
open Sys2Proof Sys2Proof.Machine

/-- Settles O9: by induction on the number of steps, since every instruction answers a next state. -/
theorem nothingStopsTheMachine : Obligations.NothingStopsTheMachine := by
  intro s k
  induction k generalizing s with
  | zero => exact ⟨s, rfl⟩
  | succ k ih =>
    obtain ⟨t, hStep⟩ := step_next s
    rw [core_run_succ hStep]
    exact ih t

/-- Settles O11: the sums of the modes are sums of numbers, the pointers are words of work RAM, and the frame is that of
every mode function. -/
theorem modesComputeTheirAddress : Obligations.ModesComputeTheirAddress := by
  intro b w s
  dsimp only
  rw [applyMode_izx, applyMode_izy, indexed_crossed_iff, ← zeroPagePointer_toNat]
  refine ⟨zext16_toNat b, zext16_toNat _, zext16_toNat _, rfl, indexed_addr_toNat w _, indexed_addr_toNat w _,
    sext16_toInt b, ?_, indexed_addr_toNat _ _, indexed_crossed_iff w _, indexed_crossed_iff w _, Iff.rfl, fun o => ?_⟩
  · refine (zeroPagePointer_toNat _ s).trans ?_
    simp [BitVec.toNat_add]
  · obtain ⟨hReads, hTransients⟩ := applyMode_frame o s
    exact ⟨hTransients, hReads, fun h => applyMode_outsideCpu h s, mode_of_crossed⟩

/-- Settles O34: an undocumented opcode charges no page cross; a documented one does when its operation does and its
mode reports one, which is what the list of the 23 says. -/
theorem onlyTheNamedOpcodesCostOneMore : Obligations.OnlyTheNamedOpcodesCostOneMore := by
  intro b b1 b2 s hMode
  dsimp only
  by_cases hb : (tableEntry b).op = .xxx
  · have hNamed : b ∉ extraCycleOpcodes := by simp [extraCycleOpcodes_iff, hb, chargesCross]
    rw [decodeBytes_undocumented ((Laws.EncodedLength.entry_op _ b).trans hb)]
    refine ⟨_, rfl, ?_⟩
    simp [Costs, setCost, hNamed]
  · have hOp := op_decodeBytes s.params b b1 b2
    have hEntry := Laws.EncodedLength.entry_documented (p := s.params) hb
    obtain ⟨u, hEnd⟩ := exec_complete (i := decodeBytes s.params b b1 b2) (by rwa [hOp, hEntry])
      (by rw [hOp, hEntry, maxExtra_tableEntry b hMode]) s
    rw [operand_decodeBytes hb, hOp, complete_eq, mode_ofBytes, baseCycles_entry hb] at hEnd
    refine ⟨_, hEnd, ?_⟩
    simp only [Costs, State.setCycles_cpu, Nat.add_zero, extraCycleOpcodes_iff, hEntry]
    cases hCrossed : (applyMode (Operand.ofBytes (tableEntry b).mode b1 b2) s).crossed with
    | false => simp
    | true =>
      have hReports := mode_of_crossed hCrossed
      rw [mode_ofBytes] at hReports
      cases chargesCross (tableEntry b).op <;> simp [hReports]

/-- Settles O4: a step in a CPU slot with the counter at 0 is a fetch step, which `fetchStep_pure` says with the bytes
in view; the reads of the fetch are those of `fetch_eq`. -/
theorem stepRunsTheDecodedInstruction : Obligations.StepRunsTheDecodedInstruction := by
  refine ⟨fun s hDma hSlot hCycles => ?_, endFetchStep_eq, fun s => ?_⟩
  · have hParams : (ppuClock { s with sink := none }).params = s.params := ppuClock_params _
    dsimp only
    rw [step_eq_fetchStep hDma hSlot hCycles]
    refine ⟨by rw [fetchStep, hParams], fun b0 b1 b2 i rest h0 h1 h2 hDecode => ?_⟩
    rw [← hParams] at hDecode
    exact congrArg (thenDo endTick) (fetchStep_pure h0 h1 h2 hDecode)
  · dsimp only
    rw [fetch_eq]
    exact ⟨rfl, rfl, fun h => if_neg (Nat.ne_of_gt h), fun h => if_pos h, rfl⟩

/-- Settles O13: by the operand's mode; outside IMP and IMM `Operand()` is one bus read. -/
theorem operandIsTheByteAtTheEffectiveAddress : Obligations.OperandIsTheByteAtTheEffectiveAddress := by
  intro o s
  refine ⟨?_, ?_, fun hImp hImm => ?_, rfl⟩
  · rintro rfl
    exact ⟨rfl, rfl⟩
  · rintro b rfl
    exact ⟨rfl, rfl, rfl⟩
  · rw [readOperand_read hImp hImm]
    exact ⟨rfl, rfl⟩

end

section
/-! SUPPORT. The forms of the statements about instructions: what is left to show for each, the writes of registers,
`setZN`, the ends of an operation, and the encodings read off the opcode lists. -/
namespace Sys2Proof.Machine

-- Outside the CPU

section
variable {s u t : State}

/-- What is outside the CPU as after bus reads is within their frame. -/
theorem AfterReads.of_outsideCpu (h : AfterReads s u) (k : OutsideCpuAs u t) : AfterReads s t :=
  h.trans (k ▸ AfterReads.of_cpu u t.cpu)

/-- No byte of memory is in the CPU. -/
theorem OutsideCpuAs.memoryKept (h : OutsideCpuAs u t) : MemoryKept u t :=
  ((AfterReads.refl u).of_outsideCpu h).memoryKept

/-- A store is told by the bytes of memory alone, those before it and those after it. -/
theorem StoredAt.congr {a : Word} {v : Byte} {w w' : State} (h : StoredAt a v u w w') (hFrom : MemoryKept s w)
    (hTo : MemoryKept w' t) : StoredAt a v u s t := by
  obtain ⟨hSame, hOther⟩ := h
  exact ⟨fun l hl => (hTo l).trans (hSame l hl), fun l hl => (hTo l).trans ((hOther l hl).trans (hFrom l))⟩

end

-- The register file and the flags

section
variable {u : State} {c : Cpu} (h : RegistersAre u c) (v : Byte)
include h

theorem RegistersAre.setA : RegistersAre (u.setA v) { c with a := v } := by
  obtain ⟨-, hx, hy, hsp, hpc, hop⟩ := h
  exact ⟨rfl, hx, hy, hsp, hpc, hop⟩

theorem RegistersAre.setX : RegistersAre (u.setX v) { c with x := v } := by
  obtain ⟨ha, -, hy, hsp, hpc, hop⟩ := h
  exact ⟨ha, rfl, hy, hsp, hpc, hop⟩

theorem RegistersAre.setY : RegistersAre (u.setY v) { c with y := v } := by
  obtain ⟨ha, hx, -, hsp, hpc, hop⟩ := h
  exact ⟨ha, hx, rfl, hsp, hpc, hop⟩

theorem RegistersAre.setSp : RegistersAre (u.setSp v) { c with sp := v } := by
  obtain ⟨ha, hx, hy, -, hpc, hop⟩ := h
  exact ⟨ha, hx, hy, rfl, hpc, hop⟩

end

theorem TransientsOnly.flagsKept {s t : State} (h : TransientsOnly s t) (written : List Flag) :
    FlagsKept written s t := fun f _ => h.flag f

theorem znOf_setZN (v : Byte) (s : State) : ZNOf v (setZN v s) := by simp [ZNOf, flag_setZN]

theorem FlagsKept.setZN {s u : State} (h : FlagsKept [] s u) (v : Byte) : FlagsKept [.z, .n] s (setZN v u) := by
  intro f hf
  have hz : f ≠ .z := fun e => hf (by simp [e])
  have hn : f ≠ .n := fun e => hf (by simp [e])
  rw [flag_setZN, if_neg hn, if_neg hz]
  exact h f List.not_mem_nil

-- The ends of an operation (R255)

/-- An operation that charges a page cross and nothing else. -/
theorem complete_charging (op : Op) (o : Operand) (crossed : Bool) (s : State) : complete op o crossed true 0 s =
    .next (s.setCycles (BitVec.ofNat 8 (baseCycles op o.mode + crossed.toNat))) := by
  rw [complete_eq, Bool.and_true, Nat.add_zero]

/-- An operation that costs its base. -/
theorem complete_base (op : Op) (o : Operand) (crossed : Bool) (s : State) : complete op o crossed false 0 s =
    .next (s.setCycles (BitVec.ofNat 8 (baseCycles op o.mode))) := by
  rw [complete_eq, Bool.and_false]
  rfl

-- The forms

section
variable {i : Instr} {o : Operand} {s u t : State} {c d : Cpu} {written : List Flag} {n : Nat} {more : State → Prop}
  {a : Word} {v r : Byte}

theorem CompletesInCpu.of_outsideCpu (hExec : exec i s = .next t) (hRegs : RegistersAre t c)
    (hFlags : FlagsKept written s t) (hMore : more t) (hOutside : OutsideCpuAs s t) (hCost : Costs n t) :
    CompletesInCpu i s c written n more :=
  ⟨t, hExec, hRegs, hFlags, hMore, hOutside, hOutside.memoryKept, hCost⟩

/-- Beyond the CPU an instruction that reads its operand has to leave what the read leaves. -/
theorem CompletesReading.of_outsideCpu (hExec : exec i s = .next t) (hRegs : RegistersAre t c)
    (hFlags : FlagsKept written s t) (hMore : more t) (hOutside : OutsideCpuAs (readOperand o s).state t)
    (hCost : Costs n t) : CompletesReading i o s c written n more :=
  have hReads := (readOperand_frame o s).1.of_outsideCpu hOutside
  ⟨t, hExec, hRegs, hFlags, hMore, hOutside, hReads, hReads.memoryKept, hCost⟩

/-- Beyond the CPU an instruction that stores has to leave what its write makes of the state its reads leave: that
write is the one that changes memory. -/
theorem CompletesStoring.of_outsideCpu (hExec : exec i s = .next t) (hRegs : RegistersAre t c)
    (hFlags : FlagsKept written s t) (hMore : more t) (hReads : AfterReads s u)
    (hOutside : OutsideCpuAs (memWrite a v u) t) (hCost : Costs n t) :
    CompletesStoring i s u a v c written n more := by
  refine ⟨t, hExec, hRegs, hFlags, hMore, hOutside, hReads, fun hs => ?_, hCost⟩
  obtain ⟨-, hValid⟩ := (State.inv_iff s).mp hs
  exact (memWrite_storedAt (hValid.afterReads hReads) a v).congr hReads.memoryKept hOutside.memoryKept

/-- An operation without operand that writes registers, and Z and N of a byte. -/
theorem completesInCpu_setZN
    (hExec : exec i s = .next ((setZN v ((implied s).setCpu d)).setCycles (BitVec.ofNat 8 n)))
    (hRegs : RegistersAre ((implied s).setCpu d) c) (hStatus : d.p = s.cpu.p) :
    CompletesInCpu i s c [.z, .n] n (ZNOf v) := by
  have hFlags : FlagsKept [] s ((implied s).setCpu d) := fun f _ => State.flag_congr hStatus f
  exact .of_outsideCpu hExec hRegs (hFlags.setZN v) (znOf_setZN v _) rfl rfl

/-- An operation that reads its operand and writes registers, and Z and N of a byte. -/
theorem completesReading_setZN
    (hExec : exec i s = .next ((setZN v ((readOperand o s).state.setCpu d)).setCycles (BitVec.ofNat 8 n)))
    (hRegs : RegistersAre ((readOperand o s).state.setCpu d) c) (hStatus : d.p = (readOperand o s).state.cpu.p) :
    CompletesReading i o s c [.z, .n] n (ZNOf v) := by
  have hRead := (readOperand_frame o s).2
  have hFlags : FlagsKept [] s ((readOperand o s).state.setCpu d) :=
    fun f _ => (State.flag_congr hStatus f).trans (hRead.flag f)
  exact .of_outsideCpu hExec hRegs (hFlags.setZN v) (znOf_setZN v _) rfl rfl

/-- An operation that writes a byte at the address its mode gives, and does nothing else. -/
theorem completesStoring_mode
    (hExec : exec i s = .next ((memWrite (applyMode o s).state.cpu.addrAbs r (applyMode o s).state).setCycles
      (BitVec.ofNat 8 n))) (hByte : r = v) :
    CompletesStoring i s (applyMode o s).state (applyMode o s).state.cpu.addrAbs v s.cpu [] n (fun _ => True) := by
  subst hByte
  obtain ⟨hReads, hTransients⟩ := applyMode_frame o s
  have hAll := hTransients.trans (TransientsOnly.of_cpu (memWrite_cpu (applyMode o s).state.cpu.addrAbs r _))
  exact .of_outsideCpu hExec hAll.registers (hAll.flagsKept []) trivial hReads rfl rfl

end

-- The encodings

/-- A documented operation has the encodings that the lists of R206 give it, at the base cycles of the matrix: no two
rows of the matrix share operation and mode, and every documented row is in the lists. -/
theorem HasEncodings.of_opcodes {op : Op} {l : List (Byte × Mode × Nat)}
    (h : op ≠ .xxx ∧ op.opcodes = l.map (fun e => (e.2.1, e.1)) ∧ ∀ e ∈ l, baseCycles op e.2.1 = e.2.2) :
    HasEncodings op l := by
  obtain ⟨hDocumented, hOpcodes, hBase⟩ := h
  refine ⟨fun e he p b1 b2 => ⟨?_, hBase e he⟩, fun p b hb => ?_⟩
  · have hListed : (e.2.1, e.1) ∈ op.opcodes := by
      rw [hOpcodes]
      exact List.mem_map_of_mem he
    obtain ⟨hOp, hMode⟩ := of_decide_eq_true (List.all_eq_true.mp (Laws.EncodedLength.opcodes_agree op) _ hListed)
    rw [decodeBytes, Laws.EncodedLength.entry_documented (hOp ▸ hDocumented), hOp, hMode]
  · rw [Laws.EncodedLength.entry_op] at hb
    have hListed := Laws.EncodedLength.lookup_mem (opcode_tableEntry b (hb ▸ hDocumented))
    rw [hb, hOpcodes] at hListed
    obtain ⟨e, he, hRow⟩ := List.mem_map.mp hListed
    exact List.mem_map.mpr ⟨e, he, congrArg Prod.snd hRow⟩

end Sys2Proof.Machine
end

section
/-! PROOFS. Loads, stores and register transfers. -/
open Sys2Proof Sys2Proof.Machine

/-- Settles O14: a load writes its register, and Z and N, in the state the operand read leaves, and charges the page
cross its mode reports. -/
theorem loadsPutTheOperandInTheirRegister : Obligations.LoadsPutTheOperandInTheirRegister := by
  refine ⟨fun o s => ?_, .of_opcodes (by decide), .of_opcodes (by decide), .of_opcodes (by decide)⟩
  have hRegs := (readOperand_frame o s).2.registers
  exact ⟨completesReading_setZN (complete_charging .lda o _ _) (hRegs.setA _) rfl,
    completesReading_setZN (complete_charging .ldx o _ _) (hRegs.setX _) rfl,
    completesReading_setZN (complete_charging .ldy o _ _) (hRegs.setY _) rfl⟩

/-- Settles O15: a store is one bus write after its mode function, which leaves the registers as they were. -/
theorem storesWriteTheirRegisterOnce : Obligations.StoresWriteTheirRegisterOnce := by
  refine ⟨fun o s => ?_, .of_opcodes (by decide), .of_opcodes (by decide), .of_opcodes (by decide)⟩
  obtain ⟨ha, hx, hy, -, -, -⟩ := (applyMode_frame o s).2.registers
  exact ⟨completesStoring_mode (complete_base .sta o _ _) ha, completesStoring_mode (complete_base .stx o _ _) hx,
    completesStoring_mode (complete_base .sty o _ _) hy⟩

/-- Settles O16: the mode IMP writes a transient alone; TXS leaves P as it is, the others end with `setZN`. -/
theorem transfersCopyARegister : Obligations.TransfersCopyARegister := by
  refine ⟨fun s => ?_, .of_opcodes (by decide), .of_opcodes (by decide), .of_opcodes (by decide),
    .of_opcodes (by decide), .of_opcodes (by decide), .of_opcodes (by decide)⟩
  have hImplied := (applyMode_frame .imp s).2
  have hRegs : RegistersAre (implied s) s.cpu := hImplied.registers
  exact ⟨completesInCpu_setZN (complete_base .tax .imp _ _) (hRegs.setX _) rfl,
    completesInCpu_setZN (complete_base .tay .imp _ _) (hRegs.setY _) rfl,
    completesInCpu_setZN (complete_base .txa .imp _ _) (hRegs.setA _) rfl,
    completesInCpu_setZN (complete_base .tya .imp _ _) (hRegs.setA _) rfl,
    completesInCpu_setZN (complete_base .tsx .imp _ _) (hRegs.setX _) rfl,
    .of_outsideCpu (complete_base .txs .imp _ _) (hRegs.setSp _) (hImplied.flagsKept []) trivial rfl rfl⟩

end

section
/-! SUPPORT. What the datapath of ADC and SBC, the compares and the counting instructions compute, in numbers
(`42_arithmetic_logic.md` R291, R292, R297, R300 to R305). -/
namespace Sys2Proof.Machine

-- Bytes as numbers

theorem ofNat_toNat_add_one (b : Byte) : BitVec.ofNat 8 (b.toNat + 1) = b + 1 :=
  BitVec.eq_of_toNat_eq (by simp)

/-- Adding 255 is subtracting one modulo 256. -/
theorem ofNat_toNat_add_255 (b : Byte) : BitVec.ofNat 8 (b.toNat + 255) = b - 1 :=
  BitVec.eq_of_toNat_eq (by simp [BitVec.toNat_sub, Nat.add_comm])

/-- The sign of a difference is bit 7 of the difference modulo 256 (R297). -/
theorem getLsbD_seven_sub (r m : Byte) :
    (r - m).getLsbD 7 = decide (128 ≤ (r.toNat + 256 - m.toNat) % 256) := by
  have hm := m.isLt
  have hOrder : 2 ^ 8 - m.toNat + r.toNat = r.toNat + 256 - m.toNat := by omega
  rw [getLsbD_seven_eq, BitVec.toNat_sub, hOrder]

-- The sum of ADC and SBC (R291, R292)

/-- The intermediate has room for the whole sum. -/
theorem sum16_toNat (a m : Byte) (carry : Bool) : (sum16 a m carry).toNat = a.toNat + m.toNat + carry.toNat := by
  have ha := a.isLt
  have hm := m.isLt
  have hCarry : (bitByte carry).toNat = carry.toNat := by cases carry <;> rfl
  have hBit := carry.toNat_le
  simp only [sum16, BitVec.toNat_add, zext16_toNat, hCarry]
  omega

theorem lo8_sum16 (a m : Byte) (carry : Bool) :
    lo8 (sum16 a m carry) = BitVec.ofNat 8 (a.toNat + m.toNat + carry.toNat) := by
  rw [lo8, ← sum16_toNat, ← extractLsb'_ofNat (w := 16) (by decide), BitVec.ofNat_toNat, BitVec.setWidth_eq]

/-- Bit 8 of the intermediate is the carry out of a byte. -/
theorem carry_sum16 (a m : Byte) (carry : Bool) :
    (sum16 a m carry).getLsbD 8 = decide (256 ≤ a.toNat + m.toNat + carry.toNat) := by
  have ha := a.isLt
  have hm := m.isLt
  have hBit := carry.toNat_le
  rw [← BitVec.testBit_toNat, sum16_toNat, Nat.testBit_eq_decide_div_mod_eq, decide_eq_decide]
  omega

/-- The signed value of a byte is 256 below the unsigned one from 128 on. -/
theorem toInt_eq_toNat_sub (b : Byte) : b.toInt = b.toNat - if 128 ≤ b.toNat then 256 else 0 := by
  rw [BitVec.toInt_eq_toNat_cond]
  split <;> split <;> omega

/-- The operands agree in sign and the result disagrees. -/
theorem overflow_iff (a m r : Byte) : overflow a m r = true ↔
    (128 ≤ a.toNat ↔ 128 ≤ m.toNat) ∧ ¬(128 ≤ a.toNat ↔ 128 ≤ r.toNat) := by
  simp only [overflow, BitVec.getLsbD_and, BitVec.getLsbD_not, BitVec.getLsbD_xor]
  simp only [getLsbD_seven_eq]
  simp

/-- The overflow formula tells that the sum of the signed values leaves the signed range (D15). -/
theorem overflow_sum (a m : Byte) (carry : Bool) :
    overflow a m (BitVec.ofNat 8 (a.toNat + m.toNat + carry.toNat)) =
      decide (a.toInt + m.toInt + carry.toNat < -128 ∨ 127 < a.toInt + m.toInt + carry.toNat) := by
  have ha := a.isLt
  have hm := m.isLt
  have hBit := carry.toNat_le
  rw [Bool.eq_iff_iff, overflow_iff, decide_eq_true_iff, BitVec.toNat_ofNat, toInt_eq_toNat_sub, toInt_eq_toNat_sub]
  omega

/-- The operand that SBC adds is the complement (R292). -/
theorem inverted_eq (m : Byte) : m ^^^ 0xFF = ~~~m := BitVec.xor_allOnes

theorem inverted_toNat (m : Byte) : (m ^^^ 0xFF).toNat = 255 - m.toNat := by
  rw [inverted_eq, BitVec.toNat_not]

theorem inverted_toInt (m : Byte) : (m ^^^ 0xFF).toInt = -1 - m.toInt := by
  have hm := m.isLt
  rw [toInt_eq_toNat_sub, toInt_eq_toNat_sub, inverted_toNat]
  omega

/-- Adding the complement and the carry is subtracting with the borrow, 256 higher. -/
theorem inverted_sum (a m : Byte) (carry : Bool) :
    ((a.toNat + (m ^^^ 0xFF).toNat + carry.toNat : Nat) : Int) =
      (a.toNat - m.toNat - (if carry = true then 0 else 1) : Int) + 256 := by
  have hm := m.isLt
  rw [inverted_toNat]
  cases carry <;> simp <;> omega

theorem inverted_signed_sum (a m : Byte) (carry : Bool) :
    a.toInt + (m ^^^ 0xFF).toInt + carry.toNat = a.toInt - m.toInt - (if carry = true then 0 else 1) := by
  rw [inverted_toInt]
  cases carry <;> simp <;> omega

/-- The low byte of the sum is that of the difference. -/
theorem ofNat_inverted_sum (a m : Byte) (carry : Bool) :
    BitVec.ofNat 8 (a.toNat + (m ^^^ 0xFF).toNat + carry.toNat) =
      BitVec.ofInt 8 (a.toNat - m.toNat - if carry = true then 0 else 1) := by
  rw [← BitVec.ofInt_natCast, inverted_sum, BitVec.ofInt_add]
  exact BitVec.add_zero _

/-- Overflow of a subtraction, by its own bit formula. -/
theorem overflow_inverted (a m r : Byte) :
    overflow a (m ^^^ 0xFF) r = ((a ^^^ m) &&& (a ^^^ r)).getLsbD 7 := by
  have hAgree : ~~~(a ^^^ ~~~m) = a ^^^ m := by rw [BitVec.not_xor_right, BitVec.not_not]
  rw [overflow, inverted_eq, hAgree]

end Sys2Proof.Machine
end

section
/-! SUPPORT. What the flag computations of additions, compares and BIT leave unchanged, and the forms of the statements
about instructions that end with them. -/
namespace Sys2Proof.Machine

-- What the flag computations leave

section
variable {s u : State} {written : List Flag}

theorem FlagsKept.setFlag (h : FlagsKept written s u) (f : Flag) (v : Bool) :
    FlagsKept (f :: written) s (u.setFlag f v) := by
  intro g hg
  obtain ⟨hne, hOld⟩ := not_or.mp (mt List.mem_cons.mpr hg)
  rw [State.flag_setFlag, if_neg hne]
  exact h g hOld

theorem FlagsKept.mono {more : List Flag} (h : FlagsKept written s u) (hSub : written ⊆ more) :
    FlagsKept more s u := fun f hf => h f fun hOld => hf (hSub hOld)

theorem FlagsKept.addWithCarry (h : FlagsKept [] s u) (m : Byte) :
    FlagsKept [.c, .z, .v, .n] s (addWithCarry m u) :=
  FlagsKept.mono ((((h.setFlag .c _).setFlag .v _).setFlag .z _).setFlag .n _) (by decide)

theorem FlagsKept.compareFlags (h : FlagsKept [] s u) (r m : Byte) :
    FlagsKept [.c, .z, .n] s (compareFlags r m u) :=
  FlagsKept.mono (((h.setFlag .c _).setFlag .z _).setFlag .n _) (by decide)

theorem FlagsKept.bitTestFlags (h : FlagsKept [] s u) (m : Byte) :
    FlagsKept [.z, .v, .n] s (bitTestFlags m u) :=
  FlagsKept.mono (((h.setFlag .z _).setFlag .n _).setFlag .v _) (by decide)

end

section
variable {u : State} {c : Cpu} (h : RegistersAre u c)
include h

theorem RegistersAre.setFlag (f : Flag) (v : Bool) : RegistersAre (u.setFlag f v) c := h

theorem RegistersAre.setZN (v : Byte) : RegistersAre (setZN v u) c := (h.setFlag .z _).setFlag .n _

theorem RegistersAre.compareFlags (r m : Byte) : RegistersAre (compareFlags r m u) c :=
  ((h.setFlag .c _).setFlag .z _).setFlag .n _

theorem RegistersAre.bitTestFlags (m : Byte) : RegistersAre (bitTestFlags m u) c :=
  ((h.setFlag .z _).setFlag .n _).setFlag .v _

theorem RegistersAre.addWithCarry (m : Byte) :
    RegistersAre (addWithCarry m u) { c with a := lo8 (sum16 u.cpu.a m (u.flag .c)) } :=
  ((((h.setFlag .c _).setFlag .v _).setFlag .z _).setFlag .n _).setA _

end

theorem OutsideCpuAs.setCpu {u t : State} (h : OutsideCpuAs u t) (c : Cpu) : OutsideCpuAs u (t.setCpu c) := by
  have hBoth := congrArg (State.setCpu c) h
  exact hBoth

theorem OutsideCpuAs.setFlag {u t : State} (h : OutsideCpuAs u t) (f : Flag) (v : Bool) :
    OutsideCpuAs u (t.setFlag f v) := h.setCpu _

theorem outsideCpu_compareFlags (r m : Byte) (s : State) : OutsideCpuAs s (compareFlags r m s) := rfl

theorem outsideCpu_bitTestFlags (m : Byte) (s : State) : OutsideCpuAs s (bitTestFlags m s) := rfl

theorem outsideCpu_addWithCarry (m : Byte) (s : State) : OutsideCpuAs s (addWithCarry m s) := by
  have hSame : OutsideCpuAs s s := rfl
  exact ((((hSame.setFlag .c _).setFlag .v _).setFlag .z _).setFlag .n _).setCpu _

/-- The counter is not in P. -/
@[simp] theorem State.flag_setCycles (f : Flag) (v : Byte) (s : State) : (s.setCycles v).flag f = s.flag f := rfl

-- The forms

/-- C, Z and N are those of the comparison of the register value `r` with the byte `m` (R297). -/
def ComparedWith (m r : Byte) (t : State) : Prop :=
  t.flag .c = decide (m.toNat ≤ r.toNat) ∧ t.flag .z = decide (r = m) ∧
    t.flag .n = decide (128 ≤ (r.toNat + 256 - m.toNat) % 256)

/-- Z and N are those of the result `r`, C and V those of the sum of `a`, `m` and the carry `c` that it is the low byte
of (R291). -/
def AddedWith (a m : Byte) (c : Bool) (r : Byte) (t : State) : Prop :=
  ZNOf r t ∧ t.flag .c = decide (256 ≤ a.toNat + m.toNat + c.toNat) ∧ t.flag .v = overflow a m r

section
variable {i : Instr} {o : Operand} {s u : State} {c : Cpu} {written : List Flag} {n : Nat} {more : State → Prop}
  {m v r : Byte}

/-- Setting the counter ends an operation without a trace in the register file, in P and outside the CPU. -/
theorem CompletesReading.of_body (hExec : exec i s = .next (u.setCycles (BitVec.ofNat 8 n)))
    (hRegs : RegistersAre u c) (hFlags : FlagsKept written s u) (hMore : more (u.setCycles (BitVec.ofNat 8 n)))
    (hOutside : OutsideCpuAs (readOperand o s).state u) : CompletesReading i o s c written n more :=
  .of_outsideCpu hExec hRegs hFlags hMore (hOutside.setCpu _) rfl

/-- As `CompletesReading.of_body`, for an operation that stores. -/
theorem CompletesStoring.of_body {w : State} {a : Word} (hExec : exec i s = .next (u.setCycles (BitVec.ofNat 8 n)))
    (hRegs : RegistersAre u c) (hFlags : FlagsKept written s u) (hMore : more (u.setCycles (BitVec.ofNat 8 n)))
    (hReads : AfterReads s w) (hOutside : OutsideCpuAs (memWrite a v w) u) :
    CompletesStoring i s w a v c written n more :=
  .of_outsideCpu hExec hRegs hFlags hMore hReads (hOutside.setCpu _) rfl

/-- An operation that reads its operand and puts a result in A, with Z and N of it. -/
theorem completesReading_setA
    (hExec : exec i s = .next ((setZN r ((readOperand o s).state.setA r)).setCycles (BitVec.ofNat 8 n)))
    (hResult : r = v) : CompletesReading i o s { s.cpu with a := v } [.z, .n] n (ZNOf v) := by
  subst hResult
  exact completesReading_setZN hExec ((readOperand_frame o s).2.registers.setA r) rfl

/-- An operation that adds the byte `m` to A. -/
theorem completesReading_addWithCarry
    (hExec : exec i s = .next ((addWithCarry m (readOperand o s).state).setCycles (BitVec.ofNat 8 n)))
    (hResult : BitVec.ofNat 8 (s.cpu.a.toNat + m.toNat + (s.flag .c).toNat) = v)
    (hMore : ∀ t : State, AddedWith s.cpu.a m (s.flag .c) v t → more t) :
    CompletesReading i o s { s.cpu with a := v } [.c, .z, .v, .n] n more := by
  rw [← lo8_sum16] at hResult
  subst hResult
  have hRead := (readOperand_frame o s).2
  obtain ⟨ha, -, -, -, -, -⟩ := hRead.registers
  have hRegs := hRead.registers.addWithCarry m
  rw [ha, hRead.flag] at hRegs
  refine .of_body hExec hRegs ((hRead.flagsKept []).addWithCarry m) (hMore _ ?_) (outsideCpu_addWithCarry m _)
  rw [AddedWith, ← carry_sum16]
  simp [ZNOf, flag_addWithCarry, ha, hRead.flag]

/-- An operation that compares a register with its operand. -/
theorem completesReading_compareFlags
    (hExec : exec i s =
      .next ((compareFlags r (readOperand o s).value (readOperand o s).state).setCycles (BitVec.ofNat 8 n)))
    (hRegister : r = v) :
    CompletesReading i o s s.cpu [.c, .z, .n] n (ComparedWith (readOperand o s).value v) := by
  subst hRegister
  have hRead := (readOperand_frame o s).2
  refine .of_body hExec (hRead.registers.compareFlags r _) ((hRead.flagsKept []).compareFlags r _) ?_
    (outsideCpu_compareFlags r _ _)
  rw [ComparedWith, ← getLsbD_seven_sub]
  simp [flag_compareFlags]

/-- An operation that writes a byte back at the effective address its operand was read from, and Z and N of it. -/
theorem completesStoring_setZN
    (hExec : exec i s =
      .next ((setZN r (memWrite (readOperand o s).state.cpu.addrAbs r (readOperand o s).state)).setCycles
        (BitVec.ofNat 8 n))) (hByte : r = v) :
    CompletesStoring i s (readOperand o s).state (readOperand o s).state.cpu.addrAbs v s.cpu [.z, .n] n (ZNOf v) := by
  subst hByte
  obtain ⟨hReads, hTransients⟩ := readOperand_frame o s
  have hAll := hTransients.trans (TransientsOnly.of_cpu (memWrite_cpu (readOperand o s).state.cpu.addrAbs r _))
  exact .of_body hExec (hAll.registers.setZN r) ((hAll.flagsKept []).setZN r) (znOf_setZN r _) hReads rfl

end

end Sys2Proof.Machine
end

section
/-! SUPPORT. D is out of the way of an addition and of the reads before it (`42_arithmetic_logic.md` R290). -/
namespace Sys2Proof.Machine

theorem putFlag_comm {f g : Flag} (h : f ≠ g) (v w : Bool) (p : Byte) :
    putFlag f v (putFlag g w p) = putFlag g w (putFlag f v p) := by
  refine status_ext fun k => ?_
  by_cases hf : k = f
  · subst hf
    rw [getFlag_putFlag_same, getFlag_putFlag_other _ _ h, getFlag_putFlag_same]
  · rw [getFlag_putFlag_other _ _ hf]
    by_cases hg : k = g
    · subst hg
      rw [getFlag_putFlag_same, getFlag_putFlag_same]
    · rw [getFlag_putFlag_other _ _ hg, getFlag_putFlag_other _ _ hg, getFlag_putFlag_other _ _ hf]

theorem State.setFlag_comm {f g : Flag} (h : f ≠ g) (v w : Bool) (s : State) :
    (s.setFlag f v).setFlag g w = (s.setFlag g w).setFlag f v :=
  congrArg s.setP (putFlag_comm h.symm w v s.cpu.p)

/-- The datapath of ADC and SBC neither reads nor writes D. -/
theorem addWithCarry_setFlag_d (m : Byte) (d : Bool) (s : State) :
    addWithCarry m (s.setFlag .d d) = (addWithCarry m s).setFlag .d d := by
  have hCarry : (s.setFlag .d d).flag .c = s.flag .c := by rw [State.flag_setFlag, if_neg (by decide)]
  have hComm : ∀ {f : Flag}, Flag.d ≠ f → ∀ (v : Bool) (u : State),
      (u.setFlag .d d).setFlag f v = (u.setFlag f v).setFlag .d d := fun h v u => u.setFlag_comm h d v
  simp only [addWithCarry, setZN, hCarry]
  rw [hComm (by decide), hComm (by decide), hComm (by decide), hComm (by decide)]
  rfl

/-- A bus read neither reads nor writes P. -/
theorem memRead_setFlag (a : Word) (f : Flag) (v : Bool) (s : State) :
    memRead a (s.setFlag f v) = ((memRead a s).1, (memRead a s).2.setFlag f v) := by
  rw [State.setFlag, State.setP, memRead_setCpu, State.setFlag, State.setP, (memRead_afterReads a s).2]

/-- No mode function reads or writes P. -/
theorem applyMode_setFlag (o : Operand) (f : Flag) (v : Bool) (s : State) :
    applyMode o (s.setFlag f v) =
      { crossed := (applyMode o s).crossed, state := (applyMode o s).state.setFlag f v } := by
  cases o with
  | ind w => simp only [applyMode, indirectPointer, memRead_setFlag]; rfl
  | izx b => rw [applyMode_izx, applyMode_izx]; simp only [zeroPagePointer, memRead_setFlag]; rfl
  | izy b => rw [applyMode_izy, applyMode_izy]; simp only [zeroPagePointer, memRead_setFlag]; rfl
  | _ => rfl

/-- Reading an operand neither reads nor writes P. -/
theorem readOperand_setFlag (o : Operand) (f : Flag) (v : Bool) (s : State) :
    readOperand o (s.setFlag f v) =
      { readOperand o s with state := (readOperand o s).state.setFlag f v } := by
  have hFetch : ∀ u : State, fetchOperand o (u.setFlag f v) =
      ((fetchOperand o u).1, (fetchOperand o u).2.setFlag f v) := by
    intro u
    cases o with
    | imp => rfl
    | imm b => rfl
    | _ =>
      simp only [fetchOperand, State.setFlag_cpu, memRead_setFlag]
      rfl
  simp only [readOperand, applyMode_setFlag, hFetch]

/-- Writing D before an addition of the operand's byte, or of what `g` makes of it, is writing it after. -/
theorem exec_addition_setFlag_d {i : Instr} {op : Op} {o : Operand} {g : Byte → Byte}
    (hExec : ∀ s : State, exec i s =
      complete op o (readOperand o s).crossed true 0 (addWithCarry (g (readOperand o s).value) (readOperand o s).state))
    (d : Bool) (s : State) : exec i (s.setFlag .d d) = thenDo (State.setFlag .d d) (exec i s) := by
  rw [hExec, hExec, readOperand_setFlag, addWithCarry_setFlag_d]
  rfl

end Sys2Proof.Machine
end

section
/-! PROOFS. Arithmetic, logic, compares, increments and decrements. -/
open Sys2Proof Sys2Proof.Machine

/-- Settles O17: the intermediate of the datapath is the integer sum, and its overflow formula is the signed range. -/
theorem adcIsIntegerAddition : Obligations.AdcIsIntegerAddition := by
  refine ⟨fun o s => ?_, .of_opcodes (by decide)⟩
  refine completesReading_addWithCarry (i := .adc o) (complete_charging .adc o _ _) rfl fun t h => ?_
  obtain ⟨hZN, hCarry, hOverflow⟩ := h
  exact ⟨hZN, hCarry, hOverflow.trans (overflow_sum _ _ _), hOverflow⟩

/-- Settles O18: adding the complement of the operand is subtracting it, with the carry as the absence of a borrow. -/
theorem sbcIsIntegerSubtraction : Obligations.SbcIsIntegerSubtraction := by
  refine ⟨fun o s => ?_, .of_opcodes (by decide)⟩
  refine completesReading_addWithCarry (i := .sbc o) (complete_charging .sbc o _ _) (ofNat_inverted_sum _ _ _)
    fun t h => ?_
  obtain ⟨hZN, hCarry, hOverflow⟩ := h
  refine ⟨hZN, hCarry.trans ?_, ?_, hOverflow.trans (overflow_inverted _ _ _)⟩
  · have hSum := inverted_sum s.cpu.a (readOperand o s).value (s.flag .c)
    rw [decide_eq_decide]
    omega
  · rw [hOverflow, ← ofNat_inverted_sum, overflow_sum, inverted_signed_sum]

/-- Settles O19: no step of an addition, from the operand read to the counter, reads or writes D; SED and CLD write it
in the state the mode IMP leaves. -/
theorem decimalFlagNeverAltersArithmetic : Obligations.DecimalFlagNeverAltersArithmetic := by
  intro o d s
  have hImplied := (applyMode_frame .imp s).2
  have hRegs : RegistersAre (implied s) s.cpu := hImplied.registers
  have hFlags : FlagsKept [] s (implied s) := hImplied.flagsKept []
  exact ⟨exec_addition_setFlag_d (g := id) (fun _ => rfl) d s,
    exec_addition_setFlag_d (g := (· ^^^ 0xFF)) (fun _ => rfl) d s,
    .of_outsideCpu (complete_base .sed .imp _ _) hRegs (hFlags.setFlag .d true)
      (getFlag_putFlag_same .d true _) rfl rfl,
    .of_outsideCpu (complete_base .cld .imp _ _) hRegs (hFlags.setFlag .d false)
      (getFlag_putFlag_same .d false _) rfl rfl⟩

/-- Settles O20: the operand read leaves A, so the result combines the A the instruction began with. -/
theorem logicOperationsCombineWithA : Obligations.LogicOperationsCombineWithA := by
  refine ⟨fun o s => ?_, .of_opcodes (by decide), .of_opcodes (by decide), .of_opcodes (by decide)⟩
  obtain ⟨ha, -, -, -, -, -⟩ := (readOperand_frame o s).2.registers
  exact ⟨completesReading_setA (complete_charging .and o _ _) (congrArg (· &&& _) ha),
    completesReading_setA (complete_charging .ora o _ _) (congrArg (· ||| _) ha),
    completesReading_setA (complete_charging .eor o _ _) (congrArg (· ^^^ _) ha)⟩

/-- Settles O21: all four write P alone in the state the operand read leaves; the compares share one form. -/
theorem testsAndComparesWriteFlagsOnly : Obligations.TestsAndComparesWriteFlagsOnly := by
  refine ⟨fun o s => ?_, .of_opcodes (by decide), .of_opcodes (by decide), .of_opcodes (by decide),
    .of_opcodes (by decide)⟩
  have hRead := (readOperand_frame o s).2
  obtain ⟨ha, hx, hy, -, -, -⟩ := hRead.registers
  exact ⟨.of_body (complete_base .bit o _ _) (hRead.registers.bitTestFlags _) ((hRead.flagsKept []).bitTestFlags _)
      (by simp [flag_bitTestFlags, ha]) (outsideCpu_bitTestFlags _ _),
    completesReading_compareFlags (complete_charging .cmp o _ _) ha,
    completesReading_compareFlags (complete_base .cpx o _ _) hx,
    completesReading_compareFlags (complete_base .cpy o _ _) hy⟩

/-- Settles O22: the one write is of the byte above or below the one that the read at the same address answered. -/
theorem incAndDecRewriteOneByte : Obligations.IncAndDecRewriteOneByte := by
  refine ⟨fun o s => ?_, .of_opcodes (by decide), .of_opcodes (by decide)⟩
  exact ⟨completesStoring_setZN (complete_base .inc o _ _) (ofNat_toNat_add_one _).symm,
    completesStoring_setZN (complete_base .dec o _ _) (ofNat_toNat_add_255 _).symm⟩

/-- Settles O23: counting on bytes is counting modulo 256, and the mode IMP leaves X and Y. -/
theorem indexRegistersCountModulo256 : Obligations.IndexRegistersCountModulo256 := by
  refine ⟨fun s => ?_, .of_opcodes (by decide), .of_opcodes (by decide), .of_opcodes (by decide),
    .of_opcodes (by decide)⟩
  have hRegs : RegistersAre (implied s) s.cpu := (applyMode_frame .imp s).2.registers
  simp only [ofNat_toNat_add_one, ofNat_toNat_add_255]
  exact ⟨completesInCpu_setZN (complete_base .inx .imp _ _) (hRegs.setX _) rfl,
    completesInCpu_setZN (complete_base .iny .imp _ _) (hRegs.setY _) rfl,
    completesInCpu_setZN (complete_base .dex .imp _ _) (hRegs.setX _) rfl,
    completesInCpu_setZN (complete_base .dey .imp _ _) (hRegs.setY _) rfl⟩

end

section
/-! SUPPORT. What the shifts and rotates compute, in numbers, and the common end of their meanings, whose write-back
goes to A or to the bus (`43_shift_rotate.md` R320 to R324). -/
namespace Sys2Proof.Machine

-- The results

/-- A byte below `2 ^ k` fills the `k` bits that a shift to the left leaves free. -/
theorem shiftLeft_or_eq_ofNat (x y : Byte) {k : Nat} (h : y.toNat < 2 ^ k) :
    (x <<< k) ||| y = BitVec.ofNat 8 (2 ^ k * x.toNat + y.toNat) := by
  refine BitVec.eq_of_toNat_eq ?_
  rw [BitVec.toNat_ofNat, Nat.mul_comm, ← Nat.shiftLeft_eq, Nat.shiftLeft_add_eq_or_of_lt h, Nat.or_mod_two_pow,
    BitVec.toNat_or, BitVec.toNat_shiftLeft, BitVec.toNat_mod_cancel]

theorem bitByte_toNat (v : Bool) : (bitByte v).toNat = v.toNat := by cases v <;> rfl

/-- ROL doubles, and the carry enters at bit 0 (R323). -/
theorem rotateLeft_eq (c : Bool) (m : Byte) :
    rotateLeft c m = (BitVec.ofNat 8 (2 * m.toNat + c.toNat), decide (128 ≤ m.toNat)) := by
  have hBit : (bitByte c).toNat < 2 ^ 1 := bitByte_toNat c ▸ c.toNat_lt
  rw [rotateLeft, shiftLeft_or_eq_ofNat m _ hBit, bitByte_toNat, getLsbD_seven_eq, Nat.pow_one]

/-- ROR halves, and the carry enters at bit 7 (R324). -/
theorem rotateRight_eq (c : Bool) (m : Byte) :
    rotateRight c m = (BitVec.ofNat 8 (128 * c.toNat + m.toNat / 2), decide (m.toNat % 2 = 1)) := by
  have hm := m.isLt
  have hHalf : (m >>> 1).toNat = m.toNat / 2 := Nat.shiftRight_eq_div_pow _ 1
  have hBits : (m >>> 1).toNat < 2 ^ 7 := by omega
  rw [rotateRight, shiftLeft_or_eq_ofNat _ _ hBits, bitByte_toNat, hHalf, getLsbD_zero_eq]
  rfl

/-- ASL is ROL with no carry to enter (R321). -/
theorem shiftLeft_eq (m : Byte) : shiftLeft m = (BitVec.ofNat 8 (2 * m.toNat), decide (128 ≤ m.toNat)) := by
  have hRotate : shiftLeft m = rotateLeft false m := congrArg (·, m.getLsbD 7) BitVec.or_zero.symm
  rw [hRotate, rotateLeft_eq, Bool.toNat_false, Nat.add_zero]

/-- LSR is ROR with no carry to enter (R322). -/
theorem shiftRight_eq (m : Byte) : shiftRight m = (BitVec.ofNat 8 (m.toNat / 2), decide (m.toNat % 2 = 1)) := by
  have hRotate : shiftRight m = rotateRight false m := congrArg (·, m.getLsbD 0) BitVec.zero_or.symm
  rw [hRotate, rotateRight_eq, Bool.toNat_false, Nat.mul_zero, Nat.zero_add]

-- The flags of the common end

/-- C is the bit that left, Z and N are those of the result (R320): what the common end does before the write-back. -/
def shiftFlags (r : Byte × Bool) (s : State) : State := setZN r.1 (s.setFlag .c r.2)

theorem znOf_shiftFlags (r : Byte × Bool) (s : State) : ZNOf r.1 (shiftFlags r s) := znOf_setZN r.1 _

theorem flag_c_shiftFlags (r : Byte × Bool) (s : State) : (shiftFlags r s).flag .c = r.2 := by
  rw [shiftFlags, flag_setZN, if_neg (by decide), if_neg (by decide), State.flag_setFlag, if_pos rfl]

theorem FlagsKept.shiftFlags {s u : State} (h : FlagsKept [] s u) (r : Byte × Bool) :
    FlagsKept [.c, .z, .n] s (shiftFlags r u) :=
  FlagsKept.mono (((h.setFlag .c _).setFlag .z _).setFlag .n _) (by decide)

theorem RegistersAre.shiftFlags {u : State} {c : Cpu} (h : RegistersAre u c) (r : Byte × Bool) :
    RegistersAre (shiftFlags r u) c := (h.setFlag .c r.2).setZN r.1

theorem OutsideCpuAs.refl (s : State) : OutsideCpuAs s s := rfl

theorem OutsideCpuAs.shiftFlags {u t : State} (h : OutsideCpuAs u t) (r : Byte × Bool) :
    OutsideCpuAs u (shiftFlags r t) := ((h.setFlag .c _).setFlag .z _).setFlag .n _

/-- A bus write neither reads nor writes P. -/
theorem memWrite_setFlag (a : Word) (d : Byte) (f : Flag) (v : Bool) (s : State) :
    memWrite a d (s.setFlag f v) = (memWrite a d s).setFlag f v := by
  rw [State.setFlag, State.setP, memWrite_setCpu, State.setFlag, State.setP, memWrite_cpu]

theorem memWrite_shiftFlags (a : Word) (d : Byte) (r : Byte × Bool) (s : State) :
    memWrite a d (shiftFlags r s) = shiftFlags r (memWrite a d s) := by
  simp only [shiftFlags, setZN, memWrite_setFlag]

/-- Outside the accumulator form the write-back is one bus write (R251). -/
theorem writeBack_bus {o : Operand} (ho : o ≠ .imp) (d : Byte) (s : State) :
    writeBack o d s = memWrite s.cpu.addrAbs d s := by
  cases o with
  | imp => exact absurd rfl ho
  | _ => rfl

/-- Writing the flags before the bus write is writing them after it. -/
theorem writeBack_shiftFlags {o : Operand} (ho : o ≠ .imp) (d : Byte) (r : Byte × Bool) (s : State) :
    writeBack o d (shiftFlags r s) = shiftFlags r (memWrite s.cpu.addrAbs d s) :=
  (writeBack_bus ho d _).trans (memWrite_shiftFlags _ d r s)

-- The forms

section
variable {i : Instr} {op : Op} {o : Operand} {s : State} {crossed out : Bool} {r : Byte × Bool} {v : Byte}

/-- As `CompletesReading.of_body`, for an operation that leaves the buses alone. -/
theorem CompletesInCpu.of_body {u : State} {c : Cpu} {written : List Flag} {n : Nat} {more : State → Prop}
    (hExec : exec i s = .next (u.setCycles (BitVec.ofNat 8 n))) (hRegs : RegistersAre u c)
    (hFlags : FlagsKept written s u) (hMore : more (u.setCycles (BitVec.ofNat 8 n))) (hOutside : OutsideCpuAs s u) :
    CompletesInCpu i s c written n more :=
  .of_outsideCpu hExec hRegs hFlags hMore (hOutside.setCpu _) rfl

/-- In the accumulator form the result goes to A (R251). -/
theorem completesInCpu_shiftResult (hExec : exec i s = shiftResult op .imp r crossed (readOperand .imp s).state)
    (hBase : baseCycles op Operand.imp.mode = 2) (hResult : r = (v, out)) :
    CompletesInCpu i s { s.cpu with a := v } [.c, .z, .n] 2 (fun t => ZNOf v t ∧ t.flag .c = out) := by
  subst hResult
  have hNext := hExec.trans (complete_base op .imp crossed _)
  rw [← shiftFlags, hBase] at hNext
  have hRead := (readOperand_frame .imp s).2
  have hOutside : OutsideCpuAs s (readOperand .imp s).state := rfl
  exact .of_body hNext ((hRead.registers.shiftFlags (v, out)).setA v) ((hRead.flagsKept []).shiftFlags (v, out))
    ⟨znOf_shiftFlags (v, out) _, flag_c_shiftFlags (v, out) _⟩ ((hOutside.shiftFlags (v, out)).setCpu _)

/-- In any other form the result is written to the bus, at the address the operand was read from. -/
theorem completesStoring_shiftResult (ho : o ≠ .imp)
    (hExec : exec i s = shiftResult op o r crossed (readOperand o s).state) (hResult : r = (v, out)) :
    CompletesStoring i s (readOperand o s).state (readOperand o s).state.cpu.addrAbs v s.cpu [.c, .z, .n]
      (baseCycles op o.mode) (fun t => ZNOf v t ∧ t.flag .c = out) := by
  subst hResult
  obtain ⟨hReads, hTransients⟩ := readOperand_frame o s
  have hNext := hExec.trans (complete_base op o crossed _)
  rw [← shiftFlags, writeBack_shiftFlags ho] at hNext
  have hAll := hTransients.trans (TransientsOnly.of_cpu (memWrite_cpu (readOperand o s).state.cpu.addrAbs v _))
  exact .of_body hNext (hAll.registers.shiftFlags (v, out)) ((hAll.flagsKept []).shiftFlags (v, out))
    ⟨znOf_shiftFlags (v, out) _, flag_c_shiftFlags (v, out) _⟩ hReads ((OutsideCpuAs.refl _).shiftFlags (v, out))

end

/-- A shift or rotate does what the pair of result and carry out says that `g` computes from the carry and the
operand. -/
theorem ShiftsBy.of_result {i : Operand → Instr} {op : Op} {f : Bool → Byte → Nat} {out : Byte → Bool}
    {g : Bool → Byte → Byte × Bool}
    (hExec : ∀ (o : Operand) (s : State), exec (i o) s = shiftResult op o
      (g ((readOperand o s).state.flag .c) (readOperand o s).value) (readOperand o s).crossed (readOperand o s).state)
    (hBase : baseCycles op .imp = 2)
    (hResult : ∀ (c : Bool) (m : Byte), g c m = (BitVec.ofNat 8 (f c m), out m)) : ShiftsBy i op f out := by
  have hPair : ∀ (o : Operand) (s : State), g ((readOperand o s).state.flag .c) (readOperand o s).value =
      (BitVec.ofNat 8 (f (s.flag .c) (readOperand o s).value), out (readOperand o s).value) := by
    intro o s
    rw [(readOperand_frame o s).2.flag, hResult]
  exact ⟨fun s => completesInCpu_shiftResult (hExec .imp s) hBase (hPair .imp s),
    fun o s ho => completesStoring_shiftResult ho (hExec o s) (hPair o s)⟩

end Sys2Proof.Machine
end

section
/-! PROOFS. Shifts and rotates. -/
open Sys2Proof Sys2Proof.Machine

/-- Settles O24: the four differ in the pair of result and carry out alone, which doubles or halves the operand; the
old carry of ROL and ROR is the one before the operand read, which writes no flag. -/
theorem shiftsAndRotatesGoThroughTheCarry : Obligations.ShiftsAndRotatesGoThroughTheCarry :=
  ⟨.of_result (g := fun _ => shiftLeft) (fun _ _ => rfl) (by decide) fun _ => shiftLeft_eq,
    .of_result (g := fun _ => shiftRight) (fun _ _ => rfl) (by decide) fun _ => shiftRight_eq,
    .of_result (g := rotateLeft) (fun _ _ => rfl) (by decide) rotateLeft_eq,
    .of_result (g := rotateRight) (fun _ _ => rfl) (by decide) rotateRight_eq,
    .of_opcodes (by decide), .of_opcodes (by decide), .of_opcodes (by decide), .of_opcodes (by decide)⟩

end

section
/-! SUPPORT. Jumps, the stack and branches: what a word pulled is, what pushes leave of memory, the pointer of IND and
the target of a branch in numbers (`40_addressing_modes.md` R244, R252, `44_control_transfer.md` R341 to R344). -/
namespace Sys2Proof.Machine

theorem RegistersAre.setPc {u : State} {c : Cpu} (h : RegistersAre u c) (w : Word) :
    RegistersAre (u.setPc w) { c with pc := w } := by
  obtain ⟨ha, hx, hy, hsp, -, hop⟩ := h
  exact ⟨ha, hx, hy, hsp, rfl, hop⟩

-- Words as numbers

theorem lo8_toNat (w : Word) : (lo8 w).toNat = w.toNat % 256 := by
  rw [lo8, extractLsb'_toNat_div, Nat.pow_zero, Nat.div_one]
  rfl

/-- Two addresses lie in the same page when they are equal up to the low byte. -/
theorem hi8_eq_iff (v w : Word) : hi8 v = hi8 w ↔ v.toNat / 256 = w.toNat / 256 := by
  rw [← BitVec.toNat_inj, hi8_toNat, hi8_toNat]

theorem pair_eq_ofNat (hi lo : Byte) : pair hi lo = BitVec.ofNat 16 (256 * hi.toNat + lo.toNat) := by
  rw [Nat.add_comm, ← pair_toNat, BitVec.ofNat_toNat, BitVec.setWidth_eq]

-- Jumps

/-- A jump writes PC in the state its mode function leaves. -/
theorem exec_jmp (o : Operand) (s : State) : exec (.jmp o) s =
    .next (((applyMode o s).state.setPc (applyMode o s).state.cpu.addrAbs).setCycles
      (BitVec.ofNat 8 (baseCycles .jmp o.mode))) := complete_base .jmp o _ _

/-- The mode IND makes the two reads of its pointer and leaves their word in `addr_abs`. -/
theorem applyMode_ind_state (w : Word) (s : State) : (applyMode (.ind w) s).state =
    (indirectPointer w s).2.setAddrAbs (indirectPointer w s).1 := rfl

/-- The address of the pointer's high byte: the next one, within the page of the low byte (R244). -/
theorem indirectPointer_next (w : Word) : (if lo8 w = 0xFF then pair (hi8 w) 0x00 else w + 1) =
    BitVec.ofNat 16 (if w.toNat % 256 = 255 then w.toNat - 255 else w.toNat + 1) := by
  have hw := w.isLt
  have hLast : lo8 w = 0xFF ↔ w.toNat % 256 = 255 := by
    rw [← BitVec.toNat_inj, lo8_toNat]
    rfl
  refine BitVec.eq_of_toNat_eq ?_
  by_cases h : w.toNat % 256 = 255
  · have hZero : (0x00 : Byte).toNat = 0 := rfl
    rw [if_pos (hLast.mpr h), if_pos h, pair_toNat, hi8_toNat, hZero, BitVec.toNat_ofNat]
    omega
  · rw [if_neg (mt hLast.mp h), if_neg h, BitVec.toNat_add, BitVec.toNat_ofNat]
    rfl

-- The stack

theorem stackLoc_inj {p q : Byte} : stackLoc p = stackLoc q ↔ p = q := by
  rw [stackLoc, stackLoc, Loc.ram.injEq, Nat.add_left_cancel_iff, BitVec.toNat_inj]

/-- A push writes the byte at the place SP designates. -/
theorem push_writeAt (v : Byte) (s : State) :
    push v s = (s.writeAt v (stackLoc s.cpu.sp)).setSp (s.cpu.sp - 1) := push_eq v s

theorem push_cpu (v : Byte) (s : State) : (push v s).cpu = { s.cpu with sp := s.cpu.sp - 1 } := by
  rw [push_eq]
  rfl

theorem pushWord_cpu (w : Word) (s : State) : (pushWord w s).cpu = { s.cpu with sp := s.cpu.sp - 2 } := by
  rw [pushWord, push_cpu, push_cpu, BitVec.sub_sub]
  rfl

theorem RegistersAre.pushWord {u : State} {c : Cpu} (h : RegistersAre u c) (w : Word) :
    RegistersAre (pushWord w u) { c with sp := c.sp - 2 } := by
  obtain ⟨ha, hx, hy, hsp, hpc, hop⟩ := h
  rw [RegistersAre, pushWord_cpu, hsp]
  exact ⟨ha, hx, hy, rfl, hpc, hop⟩

theorem FlagsKept.pushWord {s u : State} {written : List Flag} (h : FlagsKept written s u) (w : Word) :
    FlagsKept written s (pushWord w u) := by
  have hStatus : (Machine.pushWord w u).cpu.p = u.cpu.p := by rw [pushWord_cpu]
  exact fun f hf => (State.flag_congr hStatus f).trans (h f hf)

/-- A pull reads the byte at the place above SP. -/
theorem pull_byteAt (s : State) : pull s = (s.byteAt (stackLoc (s.cpu.sp + 1)), s.setSp (s.cpu.sp + 1)) := pull_eq s

theorem pullWord_byteAt (s : State) : pullWord s =
    (pair (s.byteAt (stackLoc (s.cpu.sp + 2))) (s.byteAt (stackLoc (s.cpu.sp + 1))), s.setSp (s.cpu.sp + 2)) := by
  have hTwo : s.cpu.sp + 1 + 1 = s.cpu.sp + 2 := BitVec.add_assoc _ _ _
  simp only [pullWord, pull_byteAt, State.setSp_cpu, hTwo]
  rfl

/-- `u` is `s` with the bytes of `l` pushed, whatever the CPU: outside it work RAM alone differs, at the places of
`l`. -/
structure Pushed (l : List (Loc × Byte)) (s u : State) : Prop where
  frame : u = { s with cpu := u.cpu, ram := u.ram }
  valid : s.OutsideValid → u.OutsideValid
  stores : s.OutsideValid → StoresAre l s u

section
variable {l : List (Loc × Byte)} {s u : State}

theorem Pushed.of_outsideCpu (h : OutsideCpuAs s u) : Pushed [] s u where
  frame := h.trans (by rw [h])
  valid hs := hs.afterReads ((AfterReads.refl s).of_outsideCpu h)
  stores _ := ⟨fun _ he => absurd he List.not_mem_nil, fun k _ => h.memoryKept k⟩

theorem Pushed.setCpu (h : Pushed l s u) (c : Cpu) : Pushed l s (u.setCpu c) where
  frame := congrArg (State.setCpu c) h.frame
  valid hs := (h.valid hs).afterReads (AfterReads.of_cpu u c)
  stores := h.stores

/-- A push to a new place adds its byte to those pushed before. -/
theorem Pushed.push (h : Pushed l s u) (v : Byte) (hNew : stackLoc u.cpu.sp ∉ l.map Prod.fst) :
    Pushed (l ++ [(stackLoc u.cpu.sp, v)]) s (push v u) where
  frame := by
    rw [push_eq, h.frame]
    rfl
  valid hs := (BusPath.refl.push v).outsideValid (h.valid hs)
  stores hs := by
    obtain ⟨hStored, hOther⟩ := h.stores hs
    rw [push_writeAt]
    refine ⟨fun e he => ?_, fun k hk => ?_⟩
    · rcases List.mem_append.mp he with hOld | hLast
      · have hne : e.1 ≠ stackLoc u.cpu.sp := fun hSame => hNew (hSame ▸ List.mem_map_of_mem hOld)
        exact (State.byteAt_writeAt_other u v hne).trans (hStored e hOld)
      · obtain rfl := List.mem_singleton.mp hLast
        exact State.byteAt_writeAt_same (l := stackLoc u.cpu.sp) (h.valid hs) v nofun
    · rw [List.map_append, List.mem_append, not_or] at hk
      obtain ⟨hOld, hLast⟩ := hk
      have hne : k ≠ stackLoc u.cpu.sp := fun hSame => hLast (List.mem_singleton.mpr hSame)
      exact (State.byteAt_writeAt_other u v hne).trans (hOther k hOld)

/-- A word is pushed high byte first, at SP and at the place below. -/
theorem Pushed.pushWord (h : Pushed [] s u) (w : Word) :
    Pushed [(stackLoc u.cpu.sp, hi8 w), (stackLoc (u.cpu.sp - 1), lo8 w)] s (pushWord w u) := by
  have hHigh := h.push (hi8 w) List.not_mem_nil
  have hLow := hHigh.push (lo8 w) (by simp [push_cpu, stackLoc_inj])
  rw [push_cpu] at hLow
  exact hLow

/-- An instruction that only pushes ends with the bytes it pushed in memory. -/
theorem CompletesPushing.of_pushed {i : Instr} {c : Cpu} {written : List Flag} {n : Nat} {more : State → Prop}
    (hExec : exec i s = .next (u.setCycles (BitVec.ofNat 8 n))) (hRegs : RegistersAre u c)
    (hFlags : FlagsKept written s u) (hMore : more (u.setCycles (BitVec.ofNat 8 n))) (hPushed : Pushed l s u) :
    CompletesPushing i s l c written n more := by
  have hEnd := hPushed.setCpu { u.cpu with cycles := BitVec.ofNat 8 n }
  exact ⟨_, hExec, hRegs, hFlags, hMore, hEnd.frame, fun hs => hEnd.stores ((State.inv_iff s).mp hs).2, rfl⟩

end

/-- JSR pushes the address of its last byte, which it has put in PC (R342). -/
theorem exec_jsr_abs (w : Word) (s : State) : exec (.jsr (.abs w)) s =
    .next (((pushWord (s.cpu.pc - 1) ((s.setAddrAbs w).setPc (s.cpu.pc - 1))).setPc w).setCycles 6) := by
  refine (complete_base .jsr (.abs w) _ _).trans ?_
  rw [pushWord_cpu]
  rfl

/-- RTS adds one to the word it pulls (R343). -/
theorem exec_rts (s : State) : exec .rts s =
    .next ((((implied s).setSp (s.cpu.sp + 2)).setPc (BitVec.ofNat 16
      (256 * (s.byteAt (stackLoc (s.cpu.sp + 2))).toNat + (s.byteAt (stackLoc (s.cpu.sp + 1))).toNat + 1))).setCycles
        6) := by
  refine (complete_base .rts .imp _ _).trans ?_
  rw [pullWord_byteAt, BitVec.ofNat_add, ← pair_eq_ofNat]
  rfl

-- Branches

theorem branch_taken (op : Op) (o : Operand) (crossed : Bool) (s : State) : branch op o crossed true s =
    .next ((s.setPc (branchTarget s)).setCycles (BitVec.ofNat 8 (baseCycles op o.mode + takenExtra s))) := by
  rw [branch, if_pos rfl, complete_eq, Bool.and_false]
  rfl

theorem branch_notTaken (op : Op) (o : Operand) (crossed : Bool) (s : State) : branch op o crossed false s =
    .next (s.setCycles (BitVec.ofNat 8 (baseCycles op o.mode))) := complete_base op o crossed s

/-- The target is the integer sum of PC and the signed offset, modulo 65536. -/
theorem branchTarget_rel (b : Byte) (s : State) :
    branchTarget (applyMode (.rel b) s).state = BitVec.ofInt 16 (s.cpu.pc.toNat + b.toInt) := by
  rw [BitVec.ofInt_add, BitVec.ofInt_natCast, BitVec.ofNat_toNat, BitVec.setWidth_eq]
  rfl

theorem takenExtra_eq (s : State) :
    takenExtra s = if (branchTarget s).toNat / 256 = s.cpu.pc.toNat / 256 then 1 else 2 := by
  simp only [takenExtra, hi8_eq_iff]

/-- A branch is taken when what it tests of its flag says so; its mode function writes no flag and leaves PC. -/
theorem BranchesWhen.of_test {i : Operand → Instr} {op : Op} {f : Flag} {v : Bool} {test : Bool → Bool}
    (hExec : ∀ (o : Operand) (s : State), exec (i o) s =
      branch op o (applyMode o s).crossed (test ((applyMode o s).state.flag f)) (applyMode o s).state)
    (hBase : baseCycles op .rel = 2) (hTest : ∀ x : Bool, test x = decide (x = v)) : BranchesWhen i f v := by
  intro b s target
  have hMode := (applyMode_frame (.rel b) s).2
  have hNext := hExec (.rel b) s
  rw [hMode.flag, hTest] at hNext
  have hOutside : OutsideCpuAs s (applyMode (.rel b) s).state := rfl
  refine ⟨fun hTaken => ?_, fun hNot => ?_⟩
  · have hCost : baseCycles op .rel + takenExtra (applyMode (.rel b) s).state =
        if target.toNat / 256 = s.cpu.pc.toNat / 256 then 3 else 4 := by
      rw [hBase, takenExtra_eq, branchTarget_rel]
      exact apply_ite (2 + ·) _ 1 2
    rw [decide_eq_true hTaken, branch_taken, branchTarget_rel] at hNext
    rw [← hCost]
    exact .of_body hNext (hMode.registers.setPc target) (hMode.flagsKept []) trivial (hOutside.setCpu _)
  · rw [decide_eq_false hNot, branch_notTaken] at hNext
    rw [← hBase]
    exact .of_body hNext hMode.registers (hMode.flagsKept []) trivial hOutside

theorem BranchesWhen.of_flag {i : Operand → Instr} {op : Op} {f : Flag}
    (hExec : ∀ (o : Operand) (s : State), exec (i o) s =
      branch op o (applyMode o s).crossed ((applyMode o s).state.flag f) (applyMode o s).state)
    (hBase : baseCycles op .rel = 2) : BranchesWhen i f true :=
  .of_test (test := id) hExec hBase (by decide)

theorem BranchesWhen.of_not_flag {i : Operand → Instr} {op : Op} {f : Flag}
    (hExec : ∀ (o : Operand) (s : State), exec (i o) s =
      branch op o (applyMode o s).crossed (!(applyMode o s).state.flag f) (applyMode o s).state)
    (hBase : baseCycles op .rel = 2) : BranchesWhen i f false :=
  .of_test (test := not) hExec hBase (by decide)

end Sys2Proof.Machine
end

section
/-! PROOFS. Control transfer. -/
open Sys2Proof Sys2Proof.Machine

/-- Settles O25: the mode function leaves the target in `addr_abs`; that of IND has read it with the two reads of its
pointer, which write no register. -/
theorem jmpLoadsThePc : Obligations.JmpLoadsThePc := by
  refine ⟨fun w s => ?_, fun w s => ?_, .of_opcodes (by decide)⟩
  · have hMode := (applyMode_frame (.abs w) s).2
    exact .of_body (exec_jmp (.abs w) s) (hMode.registers.setPc w) (hMode.flagsKept []) trivial rfl
  · intro next low high
    have hPointer : indirectPointer w s = (pair high.1 low.1, high.2) := by
      rw [indirectPointer, indirectPointer_next]
    -- From here on nothing depends on what the two reads are.
    clear_value high low
    obtain ⟨hReads, hMode⟩ := applyMode_frame (.ind w) s
    have hNext := exec_jmp (.ind w) s
    rw [applyMode_ind_state, hPointer] at hReads hMode hNext
    exact ⟨_, hNext, (pair_toNat _ _).trans (Nat.add_comm _ _), hMode.registers.setPc _, hMode.flagsKept [],
      rfl, hReads.trans (AfterReads.of_cpu _ _), hReads.memoryKept, rfl⟩

/-- Settles O26: the two pushes of JSR go to two places, and RTS writes SP and PC alone. -/
theorem jsrAndRtsUseTheStack : Obligations.JsrAndRtsUseTheStack := by
  refine ⟨fun w s => ?_, fun s => ?_, .of_opcodes (by decide), .of_opcodes (by decide)⟩
  · have hMode : TransientsOnly s (s.setAddrAbs w) := rfl
    have hFlags : FlagsKept [] s ((s.setAddrAbs w).setPc (s.cpu.pc - 1)) := hMode.flagsKept []
    have hOutside : OutsideCpuAs s ((s.setAddrAbs w).setPc (s.cpu.pc - 1)) := rfl
    exact .of_pushed (exec_jsr_abs w s) (((hMode.registers.setPc _).pushWord _).setPc w) (hFlags.pushWord _) trivial
      (((Pushed.of_outsideCpu hOutside).pushWord _).setCpu _)
  · have hImplied := (applyMode_frame .imp s).2
    have hRegs : RegistersAre (implied s) s.cpu := hImplied.registers
    exact .of_body (exec_rts s) ((hRegs.setSp _).setPc _) (hImplied.flagsKept []) trivial rfl

/-- Settles O27: the eight differ in the flag they test, and in whether they test it as it is or negated. -/
theorem branchesTestTheirFlag : Obligations.BranchesTestTheirFlag :=
  ⟨.of_not_flag (fun _ _ => rfl) (by decide), .of_flag (fun _ _ => rfl) (by decide),
    .of_flag (fun _ _ => rfl) (by decide), .of_not_flag (fun _ _ => rfl) (by decide),
    .of_flag (fun _ _ => rfl) (by decide), .of_not_flag (fun _ _ => rfl) (by decide),
    .of_not_flag (fun _ _ => rfl) (by decide), .of_flag (fun _ _ => rfl) (by decide),
    .of_opcodes (by decide), .of_opcodes (by decide), .of_opcodes (by decide), .of_opcodes (by decide),
    .of_opcodes (by decide), .of_opcodes (by decide), .of_opcodes (by decide), .of_opcodes (by decide)⟩

end

section
/-! SUPPORT. What the mode IMP and a push or a pull of one byte leave of the registers and the flags, the interrupt entry
as three pushes and a read of its vector, and the undocumented opcodes (`40_addressing_modes.md` R252,
`45_stack_flags_system.md` R371 to R392). -/
namespace Sys2Proof.Machine

-- The mode IMP

theorem implied_registers (s : State) : RegistersAre (implied s) s.cpu := (applyMode_frame .imp s).2.registers

theorem implied_flagsKept (s : State) : FlagsKept [] s (implied s) := (applyMode_frame .imp s).2.flagsKept []

/-- An instruction that changes nothing but the counter. -/
theorem completesInCpu_implied {i : Instr} {s : State} {n : Nat}
    (hExec : exec i s = .next ((implied s).setCycles (BitVec.ofNat 8 n))) :
    CompletesInCpu i s s.cpu [] n (fun _ => True) :=
  .of_body hExec (implied_registers s) (implied_flagsKept s) trivial rfl

-- The stack, one byte at a time

theorem RegistersAre.push {u : State} {c : Cpu} (h : RegistersAre u c) (v : Byte) :
    RegistersAre (push v u) { c with sp := c.sp - 1 } := by
  obtain ⟨ha, hx, hy, hsp, hpc, hop⟩ := h
  rw [RegistersAre, push_cpu, hsp]
  exact ⟨ha, hx, hy, rfl, hpc, hop⟩

/-- P is told apart from the register file. -/
theorem RegistersAre.setP {u : State} {c : Cpu} (h : RegistersAre u c) (v : Byte) : RegistersAre (u.setP v) c := h

theorem FlagsKept.push {s u : State} {written : List Flag} (h : FlagsKept written s u) (v : Byte) :
    FlagsKept written s (push v u) := by
  have hStatus : (Machine.push v u).cpu.p = u.cpu.p := by rw [push_cpu]
  exact fun f hf => (State.flag_congr hStatus f).trans (h f hf)

/-- Nothing is said of any flag once all eight may be written. -/
theorem flagsKept_all (s t : State) : FlagsKept [.c, .z, .i, .d, .b, .u, .v, .n] s t :=
  fun f hf => absurd (by cases f <;> decide) hf

/-- PLA puts the byte above SP in A (R373). -/
theorem exec_pla (s : State) : exec .pla s =
    .next ((setZN (s.byteAt (stackLoc (s.cpu.sp + 1))) (((implied s).setSp (s.cpu.sp + 1)).setA
      (s.byteAt (stackLoc (s.cpu.sp + 1))))).setCycles 4) := by
  refine (complete_base .pla .imp _ _).trans ?_
  rw [pull_byteAt]
  rfl

/-- PLP loads the whole byte above SP, bit 5 forced (R377). -/
theorem exec_plp (s : State) : exec .plp s =
    .next ((((implied s).setSp (s.cpu.sp + 1)).setP (s.byteAt (stackLoc (s.cpu.sp + 1)) ||| 0x20)).setCycles 4) := by
  refine (complete_base .plp .imp _ _).trans ?_
  rw [pull_byteAt]
  rfl

/-- An instruction that pushes one byte of the state it began in. -/
theorem completesPushing_implied {i : Instr} {s : State} {v : Byte} {n : Nat}
    (hExec : exec i s = .next ((push v (implied s)).setCycles (BitVec.ofNat 8 n))) :
    CompletesPushing i s [(stackLoc s.cpu.sp, v)] { s.cpu with sp := s.cpu.sp - 1 } [] n (fun _ => True) := by
  have hOutside : OutsideCpuAs s (implied s) := rfl
  exact .of_pushed hExec ((implied_registers s).push v) ((implied_flagsKept s).push v) trivial
    ((Pushed.of_outsideCpu hOutside).push v List.not_mem_nil)

-- Flags

/-- An instruction that writes one flag. -/
theorem completesInCpu_setFlag {i : Instr} {s : State} {f : Flag} {v : Bool} {n : Nat}
    (hExec : exec i s = .next (((implied s).setFlag f v).setCycles (BitVec.ofNat 8 n))) :
    CompletesInCpu i s s.cpu [f] n (fun t => t.flag f = v) := by
  have hFlag : ((implied s).setFlag f v).flag f = v := by rw [State.flag_setFlag, if_pos rfl]
  exact .of_body hExec ((implied_registers s).setFlag f v) ((implied_flagsKept s).setFlag f v) hFlag rfl

-- Interrupt entry and return

/-- A read of program memory sees the cartridge and the count of free values, and changes at most that count. -/
theorem memRead_program_congr {s u : State} (hCart : u.cart = s.cart) (hFree : u.freeIndex = s.freeIndex) {a : Word}
    (ha : 0x8000 ≤ a.toNat) : memRead a u = ((memRead a s).1, u.setFreeIndex (memRead a s).2.freeIndex) := by
  obtain ⟨o, ho⟩ := cpuMapRead_program s.cart ha
  simp only [memRead, cartCpuRead, hCart, ho]
  by_cases hImage : o < s.cart.prgSize
  · simp only [if_pos hImage, ← hFree]
    rfl
  · simp only [if_neg hImage, freeByte, hFree]
    rfl

theorem memRead16_program_congr {s u : State} (hCart : u.cart = s.cart) (hFree : u.freeIndex = s.freeIndex) {a : Word}
    (ha : 0x8000 ≤ a.toNat) (hNext : 0x8000 ≤ (a + 1).toNat) :
    memRead16 a u = ((memRead16 a s).1, u.setFreeIndex (memRead16 a s).2.freeIndex) := by
  have hAfter : (memRead a s).2.cart = s.cart := (memRead_afterReads a s).1.cart
  have hHigh := memRead_program_congr (s := (memRead a s).2) (u := u.setFreeIndex (memRead a s).2.freeIndex)
    (hCart.trans hAfter.symm) rfl hNext
  simp only [memRead16, memRead_program_congr hCart hFree ha, hHigh]
  rfl

/-- The three pushes of an interrupt entry go to three places (R386). -/
theorem Pushed.interruptEntry {s u : State} (h : Pushed [] s u) (image : Byte) (w : Word) :
    Pushed [(stackLoc u.cpu.sp, hi8 w), (stackLoc (u.cpu.sp - 1), lo8 w), (stackLoc (u.cpu.sp - 2), image)] s
      (Machine.push image (Machine.pushWord w u)) := by
  have hAll := (h.pushWord w).push image (by simp [pushWord_cpu, stackLoc_inj])
  rw [pushWord_cpu] at hAll
  exact hAll

theorem Pushed.cart {l : List (Loc × Byte)} {s u : State} (h : Pushed l s u) : u.cart = s.cart := by rw [h.frame]

theorem Pushed.freeIndex {l : List (Loc × Byte)} {s u : State} (h : Pushed l s u) : u.freeIndex = s.freeIndex := by
  rw [h.frame]

/-- An interrupt entry through a vector in program memory: the pushes and the write of I, then PC and the count of free
values as reading the vector leaves them, which the pushes do not alter. -/
theorem takeInterrupt_eq {s u : State} (hOutside : OutsideCpuAs s u) (image : Byte) {vector : Word}
    (hVector : 0x8000 ≤ vector.toNat) (hNext : 0x8000 ≤ (vector + 1).toNat) : takeInterrupt image vector u =
      (((push image (pushWord u.cpu.pc u)).setFlag .i true).setFreeIndex (memRead16 vector s).2.freeIndex).setPc
        (memRead16 vector s).1 := by
  have hPushed := (Pushed.of_outsideCpu hOutside).interruptEntry image u.cpu.pc
  have hRead := memRead16_program_congr (u := (push image (pushWord u.cpu.pc u)).setFlag .i true) hPushed.cart
    hPushed.freeIndex hVector hNext
  simp only [takeInterrupt, hRead]

/-- `takeInterrupt` enters an interrupt from a state that differs in the CPU alone. -/
theorem EntersInterrupt.of_takeInterrupt {s u : State} {ret vector : Word}
    (hRegs : RegistersAre u { s.cpu with pc := ret }) (hOutside : OutsideCpuAs s u) (image : Byte)
    (hVector : 0x8000 ≤ vector.toNat) (hNext : 0x8000 ≤ (vector + 1).toNat) :
    EntersInterrupt ret image vector s (takeInterrupt image vector u) := by
  obtain ⟨-, -, -, hSp, hPc, -⟩ := id hRegs
  have hPushed := (Pushed.of_outsideCpu hOutside).interruptEntry image ret
  rw [hSp] at hPushed
  have hPushedRegs := (hRegs.pushWord ret).push image
  have hThree : s.cpu.sp - 2 - 1 = s.cpu.sp - 3 := BitVec.sub_sub _ _ _
  dsimp only at hPushedRegs
  rw [hThree] at hPushedRegs
  rw [takeInterrupt_eq hOutside image hVector hNext, hPc]
  generalize push image (pushWord ret u) = w at hPushed hPushedRegs
  refine ⟨(hPushedRegs.setFlag .i true).setPc _, ?_, ?_, fun hs => hPushed.stores ((State.inv_iff s).mp hs).2⟩
  · exact (State.flag_setFlag .i .i true w).trans (if_pos rfl)
  · exact congrArg (fun t => ((State.setFlag .i true t).setFreeIndex (memRead16 vector s).2.freeIndex).setPc
      (memRead16 vector s).1) hPushed.frame

theorem FlagsKept.takeInterrupt {s u : State} {written : List Flag} (h : FlagsKept written s u) (image : Byte)
    (vector : Word) : FlagsKept (.i :: written) s (takeInterrupt image vector u) :=
  fun f hf => (State.flag_congr (takeInterrupt_p image vector u) f).trans (h.setFlag .i true f hf)

theorem FlagsKept.setCycles {s t : State} {written : List Flag} (h : FlagsKept written s t) (n : Byte) :
    FlagsKept written s (t.setCycles n) := h

/-- The counter is no part of an interrupt entry. -/
theorem EntersInterrupt.setCycles {s t : State} {ret vector : Word} {image : Byte}
    (h : EntersInterrupt ret image vector s t) (n : Byte) : EntersInterrupt ret image vector s (t.setCycles n) := by
  obtain ⟨hRegs, hI, hFrame, hStores⟩ := h
  exact ⟨hRegs, hI, congrArg (State.setCycles n) hFrame, hStores⟩

/-- A return pulls the status, forces bit 5 of it, and pulls PC low byte first, without an increment (R387). -/
theorem returnFromInterrupt_eq (s : State) : returnFromInterrupt s =
    ((s.setSp (s.cpu.sp + 3)).setP (s.byteAt (stackLoc (s.cpu.sp + 1)) ||| 0x20)).setPc (BitVec.ofNat 16
      (256 * (s.byteAt (stackLoc (s.cpu.sp + 3))).toNat + (s.byteAt (stackLoc (s.cpu.sp + 2))).toNat)) := by
  have hTwo : s.cpu.sp + 1 + 1 = s.cpu.sp + 2 := BitVec.add_assoc _ _ _
  have hThree : s.cpu.sp + 1 + 2 = s.cpu.sp + 3 := BitVec.add_assoc _ _ _
  rw [← pair_eq_ofNat, ← hTwo, ← hThree, returnFromInterrupt, pull_byteAt, pullWord_byteAt]
  rfl

theorem exec_rti (s : State) : exec .rti s =
    .next ((((((implied s).setSp (s.cpu.sp + 3)).setP (s.byteAt (stackLoc (s.cpu.sp + 1)) ||| 0x20)).setPc
      (BitVec.ofNat 16 (256 * (s.byteAt (stackLoc (s.cpu.sp + 3))).toNat +
        (s.byteAt (stackLoc (s.cpu.sp + 2))).toNat)))).setCycles 6) := by
  refine (complete_base .rti .imp _ _).trans ?_
  rw [returnFromInterrupt_eq]
  rfl

-- The undocumented opcodes

/-- The rows of the matrix for the listed opcodes, as one pass over the lists. -/
theorem undefCycleList_rows :
    (undefCycleList.all fun e => e.2.all fun b =>
      decide (tableEntry b = { op := .xxx, mode := .imp, base := e.1 })) = true := by
  decide +kernel

/-- Every undocumented row of the matrix is of a listed opcode. -/
theorem undocumented_listed :
    ∀ b : Byte, (tableEntry b).op = .xxx → (undefCycleList.any fun e => e.2.contains b) = true := by
  decide +kernel

/-- A listed opcode is undocumented, of mode IMP and of the cycles of its list by default (R207, R208). -/
theorem tableEntry_undocumented {e : Nat × List Byte} (he : e ∈ undefCycleList) {b : Byte} (hb : b ∈ e.2) :
    tableEntry b = { op := .xxx, mode := .imp, base := e.1 } :=
  of_decide_eq_true (List.all_eq_true.mp (List.all_eq_true.mp undefCycleList_rows e he) b hb)

theorem tableEntry_undocumented_iff (b : Byte) : (tableEntry b).op = .xxx ↔ b ∈ undefCycleList.flatMap Prod.snd := by
  refine ⟨fun h => ?_, fun h => ?_⟩
  · obtain ⟨e, he, hb⟩ := List.any_eq_true.mp (undocumented_listed b h)
    exact List.mem_flatMap.mpr ⟨e, he, List.contains_iff_mem.mp hb⟩
  · obtain ⟨e, he, hb⟩ := List.mem_flatMap.mp h
    rw [tableEntry_undocumented he hb]

/-- What the parameters give an undocumented opcode, the defaults where they give nothing (R12). -/
theorem entry_undocumented {e : Nat × List Byte} (he : e ∈ undefCycleList) {b : Byte} (hb : b ∈ e.2) (p : Params) :
    p.entry b = { op := .xxx, mode := (p.undefMode.lookup b).getD .imp,
                  base := (p.undefCycles.lookup b).getD e.1 } := by
  rw [Params.entry, tableEntry_undocumented he hb, if_pos rfl]

/-- An undocumented opcode runs its mode function and charges no page cross (R392). -/
theorem exec_xxx (b : Byte) (o : Operand) (s : State) : exec (.xxx b o) s =
    .next ((applyMode o s).state.setCycles (BitVec.ofNat 8 (s.params.entry b).base)) := by
  refine congrArg Host.Outcome.next ?_
  rw [setCost, Bool.and_false]
  rfl

end Sys2Proof.Machine
end

section
/-! PROOFS. Stack, flag and system instructions. -/
open Sys2Proof Sys2Proof.Machine

/-- Settles O28: PHA writes the place SP designates; PLA reads the place above it and ends with `setZN`. -/
theorem phaAndPlaMoveAThroughTheStack : Obligations.PhaAndPlaMoveAThroughTheStack :=
  ⟨fun s => ⟨completesPushing_implied (complete_base .pha .imp _ _),
      completesInCpu_setZN (exec_pla s) (((implied_registers s).setSp _).setA _) rfl⟩,
    .of_opcodes (by decide), .of_opcodes (by decide)⟩

/-- Settles O29: PHP pushes the image without writing P; PLP may write all eight flags. -/
theorem phpAndPlpMoveStatusThroughTheStack : Obligations.PhpAndPlpMoveStatusThroughTheStack :=
  ⟨fun s => ⟨completesPushing_implied (complete_base .php .imp _ _),
      .of_body (exec_plp s) (((implied_registers s).setSp _).setP _) (flagsKept_all s _) rfl rfl⟩,
    .of_opcodes (by decide), .of_opcodes (by decide)⟩

/-- Settles O31: BRK is an interrupt entry from the state with PC one further, and the vector is in program memory. -/
theorem brkEntersThroughTheIrqVector : Obligations.BrkEntersThroughTheIrqVector := by
  refine ⟨fun s => ?_, .of_opcodes (by decide)⟩
  have hFlags : FlagsKept [] s ((implied s).setPc (s.cpu.pc + 1)) := implied_flagsKept s
  have hEnters := EntersInterrupt.of_takeInterrupt ((implied_registers s).setPc (s.cpu.pc + 1)) rfl (s.cpu.p ||| 0x30)
    (vector := irqVector) (by decide) (by decide)
  exact ⟨_, complete_base .brk .imp _ _, hEnters.setCycles _, (hFlags.takeInterrupt _ _).setCycles _, rfl⟩

/-- Settles O32: the three pulls of RTI write SP, P and PC alone. -/
theorem rtiPullsStatusAndPc : Obligations.RtiPullsStatusAndPc :=
  ⟨fun s => .of_body (exec_rti s) ((((implied_registers s).setSp _).setP _).setPc _) (flagsKept_all s _) rfl rfl,
    .of_opcodes (by decide)⟩

/-- Settles O33: both run their mode function and set the counter, which writes no register and no flag; what the
parameters give an undocumented opcode is what its row of the table then says. -/
theorem nopAndUndocumentedOpcodesOnlyTakeTime : Obligations.NopAndUndocumentedOpcodesOnlyTakeTime := by
  refine ⟨fun s => ?_, .of_opcodes (by decide), fun e he b hb b1 b2 s => ?_, tableEntry_undocumented_iff, by decide,
    rfl, rfl⟩
  · exact completesInCpu_implied (complete_base .nop .imp _ _)
  · have hEntry := entry_undocumented he hb s.params
    have hDecode : decodeBytes s.params b b1 b2 =
        .xxx b (Operand.ofBytes ((s.params.undefMode.lookup b).getD .imp) b1 b2) := by
      rw [decodeBytes_undocumented (by rw [hEntry]), hEntry]
    have hExec : ∀ o : Operand, exec (.xxx b o) s =
        .next ((applyMode o s).state.setCycles (BitVec.ofNat 8 ((s.params.undefCycles.lookup b).getD e.1))) := by
      intro o
      rw [exec_xxx, hEntry]
    refine ⟨fun hMode => ?_, fun m hMode => ?_, fun hCycles => ?_, fun o => ?_⟩
    · rw [hDecode, hMode]
      rfl
    · rw [hDecode, hMode]
      rfl
    · have hNext := hExec .imp
      rw [hCycles] at hNext
      exact completesInCpu_implied hNext
    · obtain ⟨hReads, hMode⟩ := applyMode_frame o s
      have hAll := hReads.setCpu { (applyMode o s).state.cpu with
        cycles := BitVec.ofNat 8 ((s.params.undefCycles.lookup b).getD e.1) }
      exact ⟨_, hExec o, hMode.registers, hMode.flagsKept [], rfl, hAll, hAll.memoryKept, rfl⟩

/-- Settles O30: the seven differ in the flag and in the value. -/
theorem flagInstructionsWriteOneFlag : Obligations.FlagInstructionsWriteOneFlag :=
  ⟨fun _ => ⟨completesInCpu_setFlag (complete_base .clc .imp _ _), completesInCpu_setFlag (complete_base .sec .imp _ _),
      completesInCpu_setFlag (complete_base .cli .imp _ _), completesInCpu_setFlag (complete_base .sei .imp _ _),
      completesInCpu_setFlag (complete_base .cld .imp _ _), completesInCpu_setFlag (complete_base .sed .imp _ _),
      completesInCpu_setFlag (complete_base .clv .imp _ _)⟩,
    .of_opcodes (by decide), .of_opcodes (by decide), .of_opcodes (by decide), .of_opcodes (by decide),
    .of_opcodes (by decide), .of_opcodes (by decide), .of_opcodes (by decide)⟩

end

section
/-! SUPPORT. The five fields of a scroll register, and a byte's bits above or below others
(`10_state.md` R47, `50_ppu.md` R415, R416). -/
namespace Sys2Proof.Machine

section
variable (fy : BitVec 3) (ny nx : BitVec 1) (cy cx : BitVec 5)

@[simp] theorem coarseX_scroll : coarseX (scroll fy ny nx cy cx) = cx := BitVec.extractLsb'_append_eq_right

@[simp] theorem coarseY_scroll : coarseY (scroll fy ny nx cy cx) = cy := by
  rw [coarseY, scroll, BitVec.extractLsb'_append_eq_of_le (by decide)]
  exact BitVec.extractLsb'_append_eq_right

@[simp] theorem ntX_scroll : ntX (scroll fy ny nx cy cx) = nx := by
  rw [ntX, scroll, BitVec.extractLsb'_append_eq_of_le (by decide), BitVec.extractLsb'_append_eq_of_le (by decide)]
  exact BitVec.extractLsb'_append_eq_right

@[simp] theorem ntY_scroll : ntY (scroll fy ny nx cy cx) = ny := by
  rw [ntY, scroll, BitVec.extractLsb'_append_eq_of_le (by decide), BitVec.extractLsb'_append_eq_of_le (by decide),
    BitVec.extractLsb'_append_eq_of_le (by decide)]
  exact BitVec.extractLsb'_append_eq_right

@[simp] theorem fineY_scroll : fineY (scroll fy ny nx cy cx) = fy := by
  rw [fineY, scroll, BitVec.extractLsb'_append_eq_of_le (by decide), BitVec.extractLsb'_append_eq_of_le (by decide),
    BitVec.extractLsb'_append_eq_of_le (by decide)]
  exact BitVec.extractLsb'_append_eq_left

end

/-- Bits at and above `k` combined with bits below it are a sum. -/
theorem toNat_or_low {w : Nat} {x y : BitVec w} (k : Nat) (hx : x.toNat % 2 ^ k = 0) (hy : y.toNat < 2 ^ k) :
    (x ||| y).toNat = x.toNat + y.toNat := by
  rw [BitVec.toNat_or]
  have hdiv := Nat.div_add_mod x.toNat (2 ^ k)
  rw [hx, Nat.add_zero] at hdiv
  rw [← hdiv, Nat.two_pow_add_eq_or_of_lt hy]

/-- The first address write: six bits of the byte above the low byte of `t` (R416). -/
theorem addressHigh_toNat (d : Byte) (t : BitVec 15) :
    (((d &&& 0x3F).setWidth 15 <<< 8) ||| (t &&& 0x00FF)).toNat = d.toNat % 64 * 256 + t.toNat % 256 := by
  have hHigh : ((d &&& 0x3F).setWidth 15 <<< 8).toNat = d.toNat % 64 * 256 := by
    have hSix : (d &&& 0x3F).toNat = d.toNat % 64 := Nat.and_two_pow_sub_one_eq_mod d.toNat 6
    rw [BitVec.toNat_shiftLeft, BitVec.toNat_setWidth_of_le (by decide), hSix, Nat.shiftLeft_eq]
    omega
  have hLow : (t &&& 0x00FF).toNat = t.toNat % 256 := Nat.and_two_pow_sub_one_eq_mod t.toNat 8
  rw [toNat_or_low 8 (by omega) (by omega), hHigh, hLow]

/-- The second address write: the low byte of `t` replaced (R416). -/
theorem addressLow_toNat (d : Byte) (t : BitVec 15) :
    ((t &&& 0x7F00#15) ||| d.setWidth 15).toNat = t.toNat / 256 * 256 + d.toNat := by
  have hHigh : (t &&& 0x7F00#15).toNat = t.toNat / 256 * 256 := by
    have hShift : t &&& 0x7F00#15 = t >>> 8 <<< 8 := by
      apply BitVec.eq_of_getLsbD_eq
      intro i hi
      interval_cases i <;> simp
    rw [hShift]
    simp only [BitVec.toNat_shiftLeft, BitVec.toNat_ushiftRight, Nat.shiftLeft_eq, Nat.shiftRight_eq_div_pow]
    omega
  have hLow : (d.setWidth 15).toNat = d.toNat := BitVec.toNat_setWidth_of_le (by decide)
  rw [toNat_or_low 8 (by omega) (by omega), hHigh, hLow]

end Sys2Proof.Machine
end

section
/-! SUPPORT. The PPU's ports as writes at a place of memory, and its address space range by range, in numbers
(`20_memory.md` R110 to R115, `50_ppu.md` R412, R417). -/
namespace Sys2Proof.Machine

/-- Of memory a byte put at one place changes that byte alone. -/
theorem storesAre_of_writeAt {s t : State} {v : Byte} {l : Loc} (h : s.OutsideValid)
    (hCram : ∀ k : Nat, l ≠ .cram k) (ht : MemoryKept (s.writeAt v l) t) : StoresAre [(l, v)] s t := by
  refine ⟨fun e he => ?_, fun k hk => ?_⟩
  · obtain rfl := List.mem_singleton.mp he
    rw [ht]
    exact State.byteAt_writeAt_same h v fun k hl => absurd hl (hCram k)
  · rw [ht]
    exact State.byteAt_writeAt_other s v fun hl => hk (by simp [hl])

/-- The byte of the status port is its three bits (R412, log entry 5). -/
theorem statusByte_toNat (p : Ppu) :
    p.statusByte.toNat = 128 * p.verticalBlank.toNat + 64 * p.spriteZeroHit.toNat + 32 * p.spriteOverflow.toNat := by
  unfold Ppu.statusByte
  cases p.verticalBlank <;> cases p.spriteZeroHit <;> cases p.spriteOverflow <;> rfl

-- The PPU's address space

/-- The nametable in a quadrant is that of the mirroring mode (`20_memory.md` R114). -/
theorem ntSelect_quadrantOf (s : State) (k : Nat) :
    ntSelect s.cart.mirroring (quadrantOf k) = decide (s.nametable (k / 0x400 % 4) = 1) := by
  have hq : quadrantOf k = BitVec.ofNat 2 (k / 0x400 % 4) := by
    apply BitVec.eq_of_toNat_eq
    simp [quadrantOf]
  have hlt : k / 0x400 % 4 < 4 := Nat.mod_lt _ (by decide)
  have hMode : ∀ m : Mirroring, ntSelect m (BitVec.ofNat 2 (k / 0x400 % 4)) = decide ((match m with
      | .vertical => k / 0x400 % 4 % 2
      | .horizontal => k / 0x400 % 4 / 2
      | .onescreenHi => 1
      | _ => 0) = 1) := by
    intro m
    generalize k / 0x400 % 4 = q at hlt
    cases m <;> interval_cases q <;> rfl
  rw [hq, hMode]
  unfold Cartridge.mirroring State.nametable
  cases s.cart.mapper with
  | serial m | target m => cases hm : m.mirror <;> cases hw : s.cart.hwMirror <;> simp only [hm]
  | _ => cases hw : s.cart.hwMirror <;> rfl

/-- The palette's four images of the background entries (`20_memory.md` R115). -/
theorem palIndex_eq (n : Nat) :
    palIndex n = if n % 32 = 16 ∨ n % 32 = 20 ∨ n % 32 = 24 ∨ n % 32 = 28 then n % 32 - 16 else n % 32 := by
  unfold palIndex
  have hIff : (n % 32 ≥ 16 ∧ n % 4 = 0) ↔ (n % 32 = 16 ∨ n % 32 = 20 ∨ n % 32 = 24 ∨ n % 32 = 28) := by omega
  simp only [hIff]

section
variable {n : Nat} (s : State)

/-- From 0x2000 up the place is in one of the two nametables (R113, R114). -/
theorem ppuPlace_table (hLo : 0x2000 ≤ n) (hHi : n < 0x3F00) :
    s.ppuPlace n =
      if ntSelect s.cart.mirroring (quadrantOf n) then .nt1 (n % 0x400) else .nt0 (n % 0x400) := by
  simp only [State.ppuPlace, if_neg (Nat.not_lt.mpr hLo), if_pos hHi, ntSelect_quadrantOf, decide_eq_true_eq]

/-- From 0x3F00 up it is in the palette (R115). -/
theorem ppuPlace_palette (h : 0x3F00 ≤ n) : s.ppuPlace n = .pal (palIndex n) := by
  rw [State.ppuPlace, if_neg (by omega), if_neg (by omega), palIndex_eq]

end

/-- A write of the data port lands in the place that `v` addresses (R111). -/
theorem ppuStoreTarget_eq (s : State) : ppuStoreTarget s = s.ppuPlace (s.ppu.v.toNat % 0x4000) := by
  unfold ppuStoreTarget
  have hlt : s.ppu.v.toNat % 0x4000 < 0x4000 := Nat.mod_lt _ (by decide)
  generalize s.ppu.v.toNat % 0x4000 = n at hlt
  by_cases hPattern : n < 0x2000
  · have hLow : n < 0x1000 → n % 0x1000 = n := Nat.mod_eq_of_lt
    have hHigh : ¬n < 0x1000 → n % 0x1000 = n - 0x1000 := by omega
    simp only [State.ppuPlace, if_pos hPattern]
    split_ifs with hRam h
    · rfl
    · rw [hLow h]
    · rw [hHigh h]
  · dsimp only
    rw [if_neg hPattern]
    split
    · rw [ppuPlace_table s (by omega) (by assumption)]
    · rw [ppuPlace_palette s (by omega)]

section
variable {a : Word} (s : State)

/-- Character RAM is read at its own addresses. -/
theorem ppuRead_characterRam (h : a.toNat % 0x4000 < 0x2000) (hRam : s.cart.chrBanks = 0) :
    ppuRead a s = (s.byteAt (.chr (a.toNat % 0x4000)), s) := by
  have hMap : ppuMapRead s.cart (a.toNat % 0x4000) = some (a.toNat % 0x4000) := by simp [ppuMapRead, h, hRam]
  have hSize : a.toNat % 0x4000 < s.cart.chrSize := by
    rw [Cartridge.chrSize, hRam]
    exact h
  simp only [ppuRead, cartPpuRead, hMap, if_pos hSize, State.byteAt]

/-- From 0x2000 up no cartridge answers. -/
theorem cartPpuRead_upper {n : Nat} (h : 0x2000 ≤ n) : cartPpuRead n s = (none, s) := by
  simp [cartPpuRead, ppuMapRead, Nat.not_lt.mpr h]

theorem ppuRead_table (hLo : 0x2000 ≤ a.toNat % 0x4000) (hHi : a.toNat % 0x4000 < 0x3F00) :
    ppuRead a s = (s.byteAt (s.ppuPlace (a.toNat % 0x4000)), s) := by
  simp only [ppuRead, cartPpuRead_upper s hLo, if_neg (Nat.not_lt.mpr hLo), if_pos hHi, ppuPlace_table s hLo hHi,
    Ppu.ntRead]
  split <;> rfl

theorem ppuRead_palette (h : 0x3F00 ≤ a.toNat % 0x4000) :
    ppuRead a s = (s.byteAt (s.ppuPlace (a.toNat % 0x4000)) &&& (if s.ppu.greyscale then 0x30 else 0x3F), s) := by
  simp only [ppuRead, cartPpuRead_upper s (by omega : 0x2000 ≤ a.toNat % 0x4000), ppuPlace_palette s h,
    if_neg (show ¬a.toNat % 0x4000 < 0x2000 by omega), if_neg (Nat.not_lt.mpr h)]
  rfl

end

/-- The mask of a palette read, in numbers (R115). -/
theorem paletteMask_toNat (b : Byte) (grey : Bool) :
    (b &&& (if grey = true then 0x30 else 0x3F)).toNat = if grey = true then b.toNat / 16 % 4 * 16 else b.toNat % 64 := by
  cases grey with
  | false => exact Nat.and_two_pow_sub_one_eq_mod b.toNat 6
  | true => revert b; decide

/-- `v` after an access of the data port, in numbers (R417). -/
theorem advanceV_v (p : Ppu) :
    p.advanceV.v = BitVec.ofNat 15 (p.v.toNat + if p.ctrl.getLsbD 2 = true then 32 else 1) := by
  apply BitVec.eq_of_toNat_eq
  unfold Ppu.advanceV Ppu.incrementMode
  split <;> simp

/-- Outside the place it lands in, a write of the PPU's space changes nothing of the PPU. -/
theorem ppuWrite_ports (a : Word) (v : Byte) (s : State) :
    (ppuWrite a v s).ppu.v = s.ppu.v ∧ (ppuWrite a v s).ppu.ctrl = s.ppu.ctrl ∧
      (ppuWrite a v s).ppu.dataBuffer = s.ppu.dataBuffer := by
  unfold ppuWrite cartPpuWrite
  dsimp only
  cases ppuMapWrite s.cart (a.toNat % 0x4000) with
  | some o => exact ⟨rfl, rfl, rfl⟩
  | none =>
    dsimp only
    unfold Ppu.ptWrite Ppu.ntWrite
    split_ifs <;> exact ⟨rfl, rfl, rfl⟩

/-- Cartridge RAM is not in the PPU's space. -/
theorem ppuPlace_ne_cram (s : State) (n k : Nat) : s.ppuPlace n ≠ .cram k := by
  unfold State.ppuPlace
  split_ifs <;> exact Loc.noConfusion

end Sys2Proof.Machine
end

section
/-! PROOFS. The PPU's ports. -/
open Sys2Proof Sys2Proof.Machine

/-- Settles O46: each port writes its own register, and the byte of port 4 lands in OAM. -/
theorem controlStatusAndOamPorts : Obligations.ControlStatusAndOamPorts := by
  intro d s
  refine ⟨rfl, ?_, ?_, ?_, ?_, ?_, rfl, rfl, ?_, fun hs => ?_, rfl, statusByte_toNat _, rfl, rfl, fun p hp => ?_⟩
  iterate 5 simp [ppuPortWrite, Ppu.writeCtrl, withNtY, withNtX]
  · have hStep : s.ppu.oamAddr + 1 = BitVec.ofNat 8 (s.ppu.oamAddr.toNat + 1) := by
      apply BitVec.eq_of_toNat_eq
      simp
    rw [← hStep]
    rfl
  · exact storesAre_of_writeAt (s.inv_iff.mp hs).2 (fun _ => Loc.noConfusion) (ppuPortWrite_memory 4 d s)
  · fin_cases hp <;> rfl

/-- Settles O48: the toggle selects the branch; the fields of `t` are those the write puts in, and a byte over or under
eight bits of `t` is a sum. -/
theorem scrollAndAddressPortsTakeTwoWrites : Obligations.ScrollAndAddressPortsTakeTwoWrites := by
  intro d s
  have hFine : (d.extractLsb' 0 3).toNat = d.toNat % 8 := by simp
  have hCoarse : (d.extractLsb' 3 5).toNat = d.toNat / 8 := by
    simp [Nat.shiftRight_eq_div_pow]
    omega
  dsimp only [ppuPortWrite, Ppu.writeScroll, Ppu.writeAddr]
  refine ⟨fun hLatch => ?_, fun hLatch => ?_⟩
  · simp only [hLatch]
    refine ⟨rfl, hFine, ?_, ?_, ?_, ?_, ?_, rfl, addressHigh_toNat d s.ppu.t⟩ <;> simp [withCoarseX]
    exact hCoarse
  · simp only [hLatch]
    refine ⟨rfl, ?_, ?_, ?_, ?_, ?_, rfl, addressLow_toNat d s.ppu.t⟩ <;> simp [withCoarseY, withFineY]
    exact hCoarse
/-- Settles O49: the port reads and writes the PPU's space at `v`, where the places of the three ranges are those of the
statement. -/
theorem dataPortReachesThePpuSpace : Obligations.DataPortReachesThePpuSpace := by
  refine ⟨fun d s => ?_, fun a s => ?_⟩
  · obtain ⟨hV, hCtrl, hBuffer⟩ := ppuWrite_ports (s.ppu.v.setWidth 16) d s
    have hPort : ppuPortRead 7 s = readPort7 s := rfl
    have hAfter := advanceV_v (ppuWrite (s.ppu.v.setWidth 16) d s).ppu
    rw [hV, hCtrl] at hAfter
    refine ⟨?_, ?_, hAfter, fun hs => ?_, hBuffer, ?_, ?_⟩
    · rw [hPort]
      simp only [readPort7, ← Nat.not_lt, ite_not]
    · rw [hPort, ← advanceV_v s.ppu]
      unfold readPort7
      dsimp only
      rw [ppuRead_state]
      rfl
    · refine storesAre_of_writeAt (s.inv_iff.mp hs).2 (ppuPlace_ne_cram s _) ?_
      rw [← ppuStoreTarget_eq]
      exact ppuPortWrite_memory 7 d s
    · rw [ppuPortWrite_frame]
    · rw [ppuPortWrite_frame]
  · refine ⟨fun hn hRam => ppuRead_characterRam s hn hRam, fun hLo hHi => ppuRead_table s hLo hHi, fun h => ?_⟩
    rw [ppuRead_palette s h]
    exact ⟨rfl, paletteMask_toNat _ _⟩
end

section
/-! SUPPORT. Sprite evaluation: which entries qualify, and the slots they fill (`50_ppu.md` R440, R441). -/
namespace Sys2Proof.Machine

/-- An entry is in range of the evaluated scanline, in numbers (R440). -/
theorem qualifies_eq (offset : Nat) (p : Ppu) (n : Nat) :
    qualifies offset p n = decide (0 ≤ p.scanline + offset - (p.oam.read (4 * n)).toNat ∧
      p.scanline + offset - (p.oam.read (4 * n)).toNat < if p.ctrl.getLsbD 5 = true then 16 else 8) := by
  unfold qualifies spriteDiff Ppu.spriteHeight Ppu.spriteSize
  split <;> rfl

/-- Entry 0 is the first of those that qualify, if it does. -/
theorem zero_mem_take_filter_range (q : Nat → Bool) : 0 ∈ ((List.range 64).filter q).take 8 ↔ q 0 = true := by
  constructor
  · exact fun h => (List.mem_filter.mp (List.mem_of_mem_take h)).2
  · intro h
    rw [List.range_succ_eq_map, List.filter_cons_of_pos h]
    exact List.mem_cons_self

/-- The slots are the chosen entries, then empty ones. -/
theorem evaluateSprites_slot (offset : Nat) (p : Ppu) {k : Nat} (hk : k < 8) :
    (evaluateSprites offset p).slots[k]? =
      some (((qualifying offset p)[k]?.map (loadSlot p.oam)).getD emptySlot) := by
  have hTake : ((qualifying offset p).take 8)[k]? = (qualifying offset p)[k]? := List.getElem?_take_of_lt hk
  simp only [evaluateSprites, List.getElem?_append, List.getElem?_map, List.length_map, List.length_take, hTake,
    List.getElem?_replicate]
  cases hEntry : (qualifying offset p)[k]? with
  | some n =>
    have := (List.getElem?_eq_some_iff.mp hEntry).1
    rw [if_pos (by omega)]
    rfl
  | none =>
    have := List.getElem?_eq_none_iff.mp hEntry
    rw [if_neg (by omega), if_pos (by omega)]
    rfl

end Sys2Proof.Machine
end

section
/-! PROOFS. Sprite evaluation. -/
open Sys2Proof Sys2Proof.Machine

/-- Settles O55: the qualifying entries are those of the statement, and the slots are the first eight of them, then
empty ones. -/
theorem evaluationSelectsTheFirstEightSprites : Obligations.EvaluationSelectsTheFirstEightSprites := by
  intro offset p
  dsimp only
  simp only [← qualifies_eq]
  have hCount : (evaluateSprites offset p).sprCount = min (qualifying offset p).length 8 := by
    simp [evaluateSprites, Nat.min_comm]
  have hLength : (evaluateSprites offset p).slots.length = 8 := by
    simp [evaluateSprites]
  refine ⟨hCount, rfl, hLength, ?_, fun k hk => ?_, rfl⟩
  · rw [← decide_eq_true_iff (p := _ ∧ _), ← qualifies_eq offset p 0, ← zero_mem_take_filter_range]
    simp [evaluateSprites, qualifying]
  · rw [evaluateSprites_slot offset p hk, qualifying]
    cases ((List.range 64).filter (qualifies offset p))[k]? <;> rfl
end

section
/-! SUPPORT. What a read of the PPU's space looks at, and the steps of a line from the shifts to `TransferY()` as one change
of the PPU (`50_ppu.md` R422 to R433). -/
namespace Sys2Proof.Machine

-- What a read of the PPU's space depends on

/-- `q` has the memories of `p` and its mask: what reads of the PPU's space look at. -/
structure Ppu.ReadsAs (p q : Ppu) : Prop where
  mask : q.mask = p.mask
  nt0 : q.nt0 = p.nt0
  nt1 : q.nt1 = p.nt1
  pal : q.pal = p.pal
  pt0 : q.pt0 = p.pt0
  pt1 : q.pt1 = p.pt1

theorem cartPpuRead_setPpu (k : Nat) (q : Ppu) (s : State) :
    cartPpuRead k (s.setPpu q) = ((cartPpuRead k s).1, (cartPpuRead k s).2.setPpu q) := by
  unfold cartPpuRead
  simp only [State.setPpu_cart]
  cases ppuMapRead s.cart k with
  | none => rfl
  | some o => 
    by_cases h : o < s.cart.chrSize
    · simp only [h, if_true]
    · simp only [h, if_false]
      rfl

theorem ppuRead_setPpu {q : Ppu} {s : State} (h : s.ppu.ReadsAs q) (a : Word) :
    ppuRead a (s.setPpu q) = ((ppuRead a s).1, (ppuRead a s).2.setPpu q) := by
  have hState : (cartPpuRead (a.toNat % 0x4000) s).2.ppu = s.ppu := by
    unfold cartPpuRead
    split
    · rfl
    · split <;> rfl
  unfold ppuRead
  simp only [cartPpuRead_setPpu]
  obtain ⟨hmask, hnt0, hnt1, hpal, hpt0, hpt1⟩ := h
  revert hState
  generalize cartPpuRead (a.toNat % 0x4000) s = r
  intro hState
  obtain ⟨d, s'⟩ := r
  dsimp only at hState
  cases d with
  | some d => rfl
  | none =>
    simp only [State.setPpu_ppu, State.setPpu_cart, hState]
    split
    · simp only [Ppu.ptRead, hpt0, hpt1]
    · split
      · simp only [Ppu.ntRead, hnt0, hnt1]
      · simp only [Ppu.palRead, Ppu.greyscale, hmask, hpal]
        rfl


theorem ppuRead_setPpu_byte {q : Ppu} {s : State} (h : s.ppu.ReadsAs q) (a : Word) :
    (ppuRead a (s.setPpu q)).1 = (ppuRead a s).1 := by
  rw [ppuRead_setPpu h]

/-- The byte at an address of the PPU's space, as a read made now would return it. -/
def State.ppuByte (s : State) (a : Word) : Byte := (ppuRead a s).1

theorem ppuByte_setPpu {q : Ppu} {s : State} (h : s.ppu.ReadsAs q) : (s.setPpu q).ppuByte = s.ppuByte :=
  funext fun a => ppuRead_setPpu_byte h a

-- The position a call works on

/-- The PPU at the position a call of the clock works on: one cycle further where an odd frame skips (R422). -/
def Ppu.afterSkip (p : Ppu) : Ppu := { p with cycle := if p.skips = true then 1 else p.cycle }

theorem skips_iff (p : Ppu) :
    p.skips = true ↔ p.scanline = 0 ∧ p.cycle = 0 ∧ p.oddFrame = true ∧ p.rendering = true := by
  simp [Ppu.skips, Ppu.rendering, and_assoc]

theorem oddFrameSkip_eq (p : Ppu) : oddFrameSkip p = p.afterSkip := by
  unfold oddFrameSkip Ppu.afterSkip
  simp only [← skips_iff]
  split <;> rfl

theorem afterSkip_of_not_line {p : Ppu} (h : p.renderLine = false) : p.afterSkip = p := by
  have hSkips : ¬p.skips = true := by
    intro hs
    have hLine := ((skips_iff p).mp hs).1
    simp [Ppu.renderLine, hLine] at h
  rw [Ppu.afterSkip, if_neg hSkips]

-- The background

/-- A cycle of the fetch window is in phase `k` (R425). -/
def Ppu.inPhase (k : Nat) (p : Ppu) : Bool := p.fetchWindow && decide ((p.cycle - 1) % 8 = k)

/-- A background shifter after the shift of a cycle (R424). -/
def Ppu.shifted (p : Ppu) (r : BitVec 16) : BitVec 16 := if p.fetchWindow && p.renderBackground then r <<< 1 else r

/-- A background shifter after a cycle: shifted, and its low byte loaded in phase 0 (R424, R426). -/
def Ppu.shifter (p : Ppu) (r : BitVec 16) (low : Byte) : BitVec 16 :=
  if p.inPhase 0 then loadLow (p.shifted r) low else p.shifted r

/-- The slots after the shift of a cycle (R445). -/
def Ppu.shiftedSlots (p : Ppu) : List Slot :=
  if p.renderSprites ∧ 2 ≤ p.cycle ∧ p.cycle ≤ 257 then onFirst p.sprCount shiftSlot p.slots else p.slots

/-- `v` after the scroll increments and transfers of a cycle (R430 to R433). -/
def Ppu.nextV (p : Ppu) : BitVec 15 :=
  if p.rendering then
    if p.inPhase 7 then (if p.cycle = 256 then incrementY (incrementX p.v) else incrementX p.v)
    else if p.cycle = 257 then copyX p.t p.v
    else if p.preRenderLine ∧ 280 ≤ p.cycle ∧ p.cycle ≤ 304 then copyY p.t p.v
    else p.v
  else p.v

/-- The PPU after the shifts, the fetches and the scroll updates of a cycle, `byte` giving the bytes of its space. -/
def Ppu.background (byte : Word → Byte) (p : Ppu) : Ppu :=
  { p with
    bgNextId := if p.inPhase 0 ∨ p.cycle = 338 ∨ p.cycle = 340 then byte (tileIdAddr p.v) else p.bgNextId
    bgNextAttr := if p.inPhase 2 then attrSelect p.v (byte (attrAddr p.v)) else p.bgNextAttr
    bgNextLsb := if p.inPhase 4 then byte (patternAddr p) else p.bgNextLsb
    bgNextMsb := if p.inPhase 6 then byte (patternAddr p + 8) else p.bgNextMsb
    bgPatLo := p.shifter p.bgPatLo p.bgNextLsb
    bgPatHi := p.shifter p.bgPatHi p.bgNextMsb
    bgAttLo := p.shifter p.bgAttLo (spread8 (p.bgNextAttr.getLsbD 0))
    bgAttHi := p.shifter p.bgAttHi (spread8 (p.bgNextAttr.getLsbD 1))
    v := p.nextV
    slots := p.shiftedSlots }

/-- The steps of a line from the shifts to `TransferY()` (R420). -/
def backgroundSteps (s : State) : State :=
  (primeTileId (((pipelineStep s).mapPpu atCycle256).mapPpu atCycle257)).mapPpu preRenderTransferY

theorem loadLow_loadLow (r : BitVec 16) (b : Byte) : loadLow (loadLow r b) b = loadLow r b := by
  simp [loadLow]

section
variable (s : State)

theorem fetchTileId_ppu : (fetchTileId s).ppu = { s.ppu with bgNextId := s.ppuByte (tileIdAddr s.ppu.v) } := by
  unfold fetchTileId
  dsimp only
  rw [ppuRead_state]
  rfl

theorem fetchAttr_ppu :
    (fetchAttr s).ppu = { s.ppu with bgNextAttr := attrSelect s.ppu.v (s.ppuByte (attrAddr s.ppu.v)) } := by
  unfold fetchAttr
  dsimp only
  rw [ppuRead_state]
  rfl

theorem fetchLsb_ppu : (fetchLsb s).ppu = { s.ppu with bgNextLsb := s.ppuByte (patternAddr s.ppu) } := by
  unfold fetchLsb
  dsimp only
  rw [ppuRead_state]
  rfl

theorem fetchMsb_ppu : (fetchMsb s).ppu = { s.ppu with bgNextMsb := s.ppuByte (patternAddr s.ppu + 8) } := by
  unfold fetchMsb
  dsimp only
  rw [ppuRead_state]
  rfl

end

/-- The two shifts of a cycle of the window. -/
theorem shifts_eq {p : Ppu} (h : p.fetchWindow = true) :
    shiftSprites (shiftBackground p) =
      { p with bgPatLo := p.shifted p.bgPatLo, bgPatHi := p.shifted p.bgPatHi, bgAttLo := p.shifted p.bgAttLo,
               bgAttHi := p.shifted p.bgAttHi, slots := p.shiftedSlots } := by
  have hSprites : ∀ q : Ppu, shiftSprites q = { q with slots := q.shiftedSlots } := by
    intro q
    unfold shiftSprites Ppu.shiftedSlots
    split <;> rfl
  rw [hSprites]
  unfold shiftBackground Ppu.shifted Ppu.shiftedSlots
  rw [h, Bool.true_and]
  split <;> rfl

theorem fetchWindow_iff (p : Ppu) :
    p.fetchWindow = true ↔ (2 ≤ p.cycle ∧ p.cycle ≤ 257) ∨ (321 ≤ p.cycle ∧ p.cycle ≤ 337) := by
  simp [Ppu.fetchWindow]




theorem atCycle256_of_ne {p : Ppu} (h : p.cycle ≠ 256) : atCycle256 p = p := if_neg h

theorem atCycle257_of_ne {p : Ppu} (h : p.cycle ≠ 257) : atCycle257 p = p := if_neg h

theorem atCycle257_eq {p : Ppu} (h : p.cycle = 257) :
    atCycle257 p = { loadBgShifters p with v := if p.rendering then copyX p.t p.v else p.v } := by
  rw [atCycle257, if_pos h, transferX]
  have hr : (loadBgShifters p).rendering = p.rendering := rfl
  rw [hr]
  split <;> rfl

theorem incrementScrollX_eq (p : Ppu) :
    incrementScrollX p = { p with v := if p.rendering then incrementX p.v else p.v } := by
  unfold incrementScrollX
  split <;> rfl

/-- The two increments at cycle 256 (R430, R431). -/
theorem incrementScrollY_incrementScrollX (p : Ppu) :
    incrementScrollY (incrementScrollX p) =
      { p with v := if p.rendering then incrementY (incrementX p.v) else p.v } := by
  cases h : p.rendering with
  | false => simp [incrementScrollX, incrementScrollY, h]
  | true =>
    rw [incrementScrollX, if_pos h]
    exact if_pos h

/-- Inside the fetch window: the shift, then the step of the cycle's phase, then the scroll steps of cycles 256 and 257,
case by case along the phases of R424. -/
theorem pipeline_of_window {s : State} (h : s.ppu.fetchWindow = true) :
    atCycle257 (atCycle256 (pipelineStep s).ppu) = s.ppu.background s.ppuByte := by
  have hCycle := (fetchWindow_iff s.ppu).mp h
  have h338 : s.ppu.cycle ≠ 338 := by omega
  have h340 : s.ppu.cycle ≠ 340 := by omega
  have hY : ¬(s.ppu.preRenderLine = true ∧ 280 ≤ s.ppu.cycle ∧ s.ppu.cycle ≤ 304) := by omega
  have hPhase : ∀ k, s.ppu.inPhase k = decide ((s.ppu.cycle - 1) % 8 = k) := by simp [Ppu.inPhase, h]
  have hShifts : (s.mapPpu shiftBackground).mapPpu shiftSprites = s.setPpu (shiftSprites (shiftBackground s.ppu)) := rfl
  rw [pipelineStep, if_pos h, hShifts, shifts_eq h]
  unfold fetchPhase Ppu.background Ppu.shifter Ppu.nextV
  simp only [hPhase, decide_eq_true_eq, h338, h340, hY, or_false, if_false]
  generalize hk : (s.ppu.cycle - 1) % 8 = k
  split
  case h_1 =>
    have h256 : s.ppu.cycle ≠ 256 := by omega
    rw [fetchTileId_ppu, atCycle256_of_ne (by exact h256), State.mapPpu]
    simp (disch := exact ⟨rfl, rfl, rfl, rfl, rfl, rfl⟩) only [State.setPpu_ppu, ppuByte_setPpu]
    by_cases h257 : s.ppu.cycle = 257
    · rw [atCycle257_eq (by exact h257)]
      simp [loadBgShifters, h257, loadLow_loadLow]
      rfl
    · rw [atCycle257_of_ne (by exact h257)]
      simp [loadBgShifters, h257]
  case h_5 =>
    have h257 : s.ppu.cycle ≠ 257 := by omega
    rw [State.mapPpu, State.setPpu_ppu, State.setPpu_ppu]
    by_cases h256 : s.ppu.cycle = 256
    · rw [atCycle256, if_pos (by rw [incrementScrollX_eq]; exact h256), incrementScrollY_incrementScrollX,
        atCycle257_of_ne (by exact h257)]
      simp [h256]
      rfl
    · rw [incrementScrollX_eq, atCycle256_of_ne (by exact h256), atCycle257_of_ne (by exact h257)]
      simp [h256]
      rfl
  case h_6 h0 h2 h4 h6 h7 =>
    have h256 : s.ppu.cycle ≠ 256 := fun h => h7 (by omega)
    have h257 : s.ppu.cycle ≠ 257 := fun h => h0 (by omega)
    rw [atCycle256_of_ne (by exact h256), atCycle257_of_ne (by exact h257)]
    simp [eq_false h0, eq_false h2, eq_false h4, eq_false h6, eq_false h7, h257]
  all_goals
    have h256 : s.ppu.cycle ≠ 256 := by omega
    have h257 : s.ppu.cycle ≠ 257 := by omega
    simp (disch := exact ⟨rfl, rfl, rfl, rfl, rfl, rfl⟩) only [fetchAttr_ppu, fetchLsb_ppu, fetchMsb_ppu,
      State.setPpu_ppu, ppuByte_setPpu]
    rw [atCycle256_of_ne (by exact h256), atCycle257_of_ne (by exact h257)]
    simp [h257] <;> rfl

@[simp] theorem mapPpu_ppu (f : Ppu → Ppu) (s : State) : (s.mapPpu f).ppu = f s.ppu := rfl

theorem mapPpu_of_fixed {f : Ppu → Ppu} {s : State} (h : f s.ppu = s.ppu) : s.mapPpu f = s := congrArg s.setPpu h

theorem primeTileId_ppu (s : State) :
    (primeTileId s).ppu = { s.ppu with bgNextId :=
      if s.ppu.cycle = 338 ∨ s.ppu.cycle = 340 then s.ppuByte (tileIdAddr s.ppu.v) else s.ppu.bgNextId } := by
  unfold primeTileId
  split
  · exact fetchTileId_ppu s
  · rfl

theorem preRenderTransferY_eq (p : Ppu) :
    preRenderTransferY p = { p with v :=
      if p.rendering then (if p.preRenderLine ∧ 280 ≤ p.cycle ∧ p.cycle ≤ 304 then copyY p.t p.v else p.v) else p.v } := by
  unfold preRenderTransferY transferY
  by_cases h : p.preRenderLine ∧ 280 ≤ p.cycle ∧ p.cycle ≤ 304
  · rw [if_pos h, if_pos h]
    split <;> rfl
  · rw [if_neg h, if_neg h, ite_self]

/-- What the line's steps from the shifts to `TransferY()` leave of the PPU (R420). -/
theorem backgroundSteps_ppu (s : State) : (backgroundSteps s).ppu = s.ppu.background s.ppuByte := by
  by_cases h : s.ppu.fetchWindow = true
  · have hCycle := (fetchWindow_iff s.ppu).mp h
    have h338 : ¬(s.ppu.cycle = 338 ∨ s.ppu.cycle = 340) := by omega
    have hY : ¬(s.ppu.preRenderLine = true ∧ 280 ≤ s.ppu.cycle ∧ s.ppu.cycle ≤ 304) := by omega
    have hPipe := pipeline_of_window h
    rw [backgroundSteps, primeTileId, if_neg]
    · rw [mapPpu_ppu, mapPpu_ppu, mapPpu_ppu, hPipe]
      exact if_neg hY
    · rw [mapPpu_ppu, mapPpu_ppu, hPipe]
      exact h338
  · have hCycle : ¬_ := mt (fetchWindow_iff s.ppu).mpr h
    have h256 : s.ppu.cycle ≠ 256 := by omega
    have h257 : s.ppu.cycle ≠ 257 := by omega
    have hShift : ¬(s.ppu.renderSprites = true ∧ 2 ≤ s.ppu.cycle ∧ s.ppu.cycle ≤ 257) := by omega
    have hPhase : ∀ k, s.ppu.inPhase k = false := by simp [Ppu.inPhase, h]
    rw [backgroundSteps, pipelineStep, if_neg h, mapPpu_of_fixed (atCycle256_of_ne h256),
      mapPpu_of_fixed (atCycle257_of_ne h257), mapPpu_ppu, preRenderTransferY_eq, primeTileId_ppu]
    simp [Ppu.background, Ppu.nextV, Ppu.shifter, Ppu.shifted, Ppu.shiftedSlots, hPhase, h, h257, hShift]
    rfl

end Sys2Proof.Machine
end

section
/-! SUPPORT. One call of the PPU's clock as what the compositor finds and what it leaves, and the position (`50_ppu.md`
R420 to R463). -/
namespace Sys2Proof.Machine

-- The line and the compositor

/-- Sprite evaluation at its place (R420, R440). -/
def Ppu.evaluated (offset : Nat) (p : Ppu) : Ppu :=
  if p.cycle = 257 ∧ 0 ≤ p.scanline then evaluateSprites offset p else p

/-- What the steps of a line make of the PPU up to the sprites' pattern fetches (R420). -/
def State.linePpu (s : State) : Ppu :=
  ((preRenderClear s.ppu.afterSkip).background s.ppuByte).evaluated s.params.spriteEvalOffset

/-- What the compositor finds: the PPU after the line's steps and `SetVBlank()` (R420). -/
def drawn (s : State) : State := (if s.ppu.renderLine then renderSteps s else s).mapPpu setVBlank

theorem preRenderClear_readsAs (p : Ppu) : p.ReadsAs (preRenderClear p.afterSkip) := by
  unfold preRenderClear
  split <;> exact ⟨rfl, rfl, rfl, rfl, rfl, rfl⟩

theorem backgroundSteps_work (s : State) : PpuWork s (backgroundSteps s) :=
  ((((PpuWork.refl s).pipelineStep.mapPpu fun _ => atCycle256_valid).mapPpu fun _ => atCycle257_valid).primeTileId.mapPpu
    fun _ => preRenderTransferY_valid)

/-- The steps of a line up to the sprites' pattern fetches (R420). -/
def lineSteps (s : State) : State := evaluateAt257 (backgroundSteps (s.setPpu (preRenderClear s.ppu.afterSkip)))

theorem renderSteps_eq (s : State) : renderSteps s = fetchSpritePatterns (lineSteps s) := by
  rw [lineSteps, ← oddFrameSkip_eq]
  rfl

theorem evaluateAt257_ppu (s : State) :
    (evaluateAt257 s).ppu = s.ppu.evaluated s.params.spriteEvalOffset := by
  unfold evaluateAt257 Ppu.evaluated
  split <;> rfl

theorem lineSteps_ppu (s : State) : (lineSteps s).ppu = s.linePpu := by
  have hWork := (backgroundSteps_work (s.setPpu (preRenderClear s.ppu.afterSkip))).frame
  rw [lineSteps, evaluateAt257_ppu, backgroundSteps_ppu, hWork, State.setPpu_ppu,
    ppuByte_setPpu (preRenderClear_readsAs s.ppu)]
  rfl

theorem fetchSpritePatterns_ppu (s : State) :
    (fetchSpritePatterns s).ppu = { s.ppu with slots :=
      if s.ppu.cycle = 340 then (fetchSlots s.ppu.sprCount s.ppu.slots s).1 else s.ppu.slots } := by
  unfold fetchSpritePatterns
  split
  · simp only [State.setPpu_ppu, fetchSlots_ppu]
  · rfl

theorem renderSteps_ppu (s : State) : ∃ l : List Slot, (renderSteps s).ppu = { s.linePpu with slots := l } := by
  rw [renderSteps_eq, fetchSpritePatterns_ppu, lineSteps_ppu]
  exact ⟨_, rfl⟩

theorem renderLine_iff (p : Ppu) : p.renderLine = true ↔ -1 ≤ p.scanline ∧ p.scanline ≤ 239 := by
  simp [Ppu.renderLine]

/-- `q` has the registers of `p` that only a port writes, and its memories. -/
structure Ppu.FixedAs (p q : Ppu) : Prop where
  ctrl : q.ctrl = p.ctrl
  mask : q.mask = p.mask
  oamAddr : q.oamAddr = p.oamAddr
  addressLatch : q.addressLatch = p.addressLatch
  dataBuffer : q.dataBuffer = p.dataBuffer
  t : q.t = p.t
  fineX : q.fineX = p.fineX
  nt0 : q.nt0 = p.nt0
  nt1 : q.nt1 = p.nt1
  pal : q.pal = p.pal
  oam : q.oam = p.oam
  pt0 : q.pt0 = p.pt0
  pt1 : q.pt1 = p.pt1

/-- `q` is at the position of `p`. -/
structure Ppu.PlaceAs (p q : Ppu) : Prop where
  scanline : q.scanline = p.scanline
  cycle : q.cycle = p.cycle
  oddFrame : q.oddFrame = p.oddFrame
  frameComplete : q.frameComplete = p.frameComplete

theorem linePpu_fixed (s : State) : s.ppu.FixedAs s.linePpu := by
  unfold State.linePpu Ppu.evaluated preRenderClear
  split_ifs <;> exact ⟨rfl, rfl, rfl, rfl, rfl, rfl, rfl, rfl, rfl, rfl, rfl, rfl, rfl⟩

theorem linePpu_place (s : State) : s.ppu.afterSkip.PlaceAs s.linePpu := by
  unfold State.linePpu Ppu.evaluated preRenderClear
  split_ifs <;> exact ⟨rfl, rfl, rfl, rfl⟩

theorem setVBlank_of_line {p : Ppu} (h : p.scanline ≤ 239) : setVBlank p = p := if_neg fun hBlank => by omega

/-- On the lines -1 to 239 the compositor finds what the line's steps leave; of the slots more is said elsewhere. -/
theorem drawn_of_line {P : Ppu → Prop} (hP : ∀ q l, P q → P { q with slots := l }) {s : State}
    (h : s.ppu.renderLine = true) (hLine : P s.linePpu) : P (drawn s).ppu := by
  obtain ⟨l, hl⟩ := renderSteps_ppu s
  have hScanline : s.linePpu.scanline ≤ 239 := (linePpu_place s).scanline ▸ ((renderLine_iff s.ppu).mp h).2
  rw [drawn, if_pos h, mapPpu_ppu, hl]
  generalize s.linePpu = q at hLine hScanline
  rw [setVBlank_of_line (by exact hScanline)]
  exact hP q l hLine

theorem drawn_ppu_of_not_line {s : State} (h : s.ppu.renderLine = false) : (drawn s).ppu = setVBlank s.ppu := by
  rw [drawn, h, mapPpu_ppu]
  rfl

/-- Of the PPU the compositor writes two flags. -/
theorem composePixel_ppu (s : State) : ∃ hit zero : Bool,
    (composePixel s).ppu = { s.ppu with spriteZeroHit := hit, spr0Rendering := zero } := by
  unfold composePixel
  split
  · dsimp only
    rw [ppuRead_state]
    split <;> exact ⟨_, _, rfl⟩
  · exact ⟨_, _, rfl⟩

theorem mapperTick_ppu (s : State) : (mapperTick s).ppu = s.ppu := by
  rcases mapperTick_cases s with h | h <;> rw [h]
  rfl

theorem ppuClock_eq_drawn (s : State) : ppuClock s = (mapperTick (composePixel (drawn s))).mapPpu advance := rfl

theorem ppuClock_ppu (s : State) : (ppuClock s).ppu = advance (composePixel (drawn s)).ppu := by
  rw [ppuClock_eq_drawn, mapPpu_ppu, mapperTick_ppu]

/-- The clock leaves of the PPU what the compositor finds, but for the compositor's two flags and the position. -/
theorem ppuClock_of_drawn {P : Ppu → Prop}
    (hP : ∀ q hit zero c l f o, P q → P { q with spriteZeroHit := hit, spr0Rendering := zero, cycle := c, scanline := l
                                                 frameComplete := f, oddFrame := o }) {s : State}
    (h : P (drawn s).ppu) : P (ppuClock s).ppu := by
  obtain ⟨hit, zero, hCompose⟩ := composePixel_ppu (drawn s)
  rw [ppuClock_ppu, hCompose]
  generalize (drawn s).ppu = q at h
  unfold advance
  split_ifs <;> exact hP q hit zero _ _ _ _ h

-- What the clock keeps

theorem drawn_fixed (s : State) : s.ppu.FixedAs (drawn s).ppu := by
  cases h : s.ppu.renderLine with
  | true => exact drawn_of_line (fun _ _ h => { h with }) h (linePpu_fixed s)
  | false =>
    rw [drawn_ppu_of_not_line h]
    unfold setVBlank
    split <;> exact ⟨rfl, rfl, rfl, rfl, rfl, rfl, rfl, rfl, rfl, rfl, rfl, rfl, rfl⟩

/-- The clock writes no register that only a port writes, and no memory of the PPU (R407, R415). -/
theorem ppuClock_fixed (s : State) : s.ppu.FixedAs (ppuClock s).ppu :=
  ppuClock_of_drawn (fun _ _ _ _ _ _ _ h => { h with }) (drawn_fixed s)

-- The position

theorem Ppu.PlaceAs.trans {p q r : Ppu} (h : p.PlaceAs q) (k : q.PlaceAs r) : p.PlaceAs r :=
  ⟨k.scanline.trans h.scanline, k.cycle.trans h.cycle, k.oddFrame.trans h.oddFrame,
    k.frameComplete.trans h.frameComplete⟩

theorem drawn_place (s : State) : s.ppu.afterSkip.PlaceAs (drawn s).ppu := by
  cases h : s.ppu.renderLine with
  | true => exact drawn_of_line (fun _ _ h => { h with }) h (linePpu_place s)
  | false =>
    rw [drawn_ppu_of_not_line h, afterSkip_of_not_line h]
    unfold setVBlank
    split <;> exact ⟨rfl, rfl, rfl, rfl⟩

theorem composePixel_place (s : State) : s.ppu.PlaceAs (composePixel s).ppu := by
  obtain ⟨hit, zero, h⟩ := composePixel_ppu s
  rw [h]
  exact ⟨rfl, rfl, rfl, rfl⟩

/-- `Advance()` looks at the position alone (R463). -/
theorem Ppu.PlaceAs.advance {p q : Ppu} (h : p.PlaceAs q) : (advance p).PlaceAs (advance q) := by
  obtain ⟨hScanline, hCycle, hOdd, hFrame⟩ := h
  unfold Machine.advance
  rw [hCycle, hScanline]
  split
  · exact ⟨rfl, rfl, hOdd, hFrame⟩
  · split
    · exact ⟨rfl, rfl, hOdd, hFrame⟩
    · exact ⟨rfl, rfl, congrArg not hOdd, rfl⟩

/-- The clock moves the position on from where it works. -/
theorem ppuClock_place (s : State) : (advance s.ppu.afterSkip).PlaceAs (ppuClock s).ppu := by
  rw [ppuClock_ppu]
  exact ((drawn_place s).trans (composePixel_place _)).advance

theorem afterSkip_position (p : Ppu) :
    p.afterSkip.position + 1 = p.position + if p.skips = true then 2 else 1 := by
  unfold Ppu.position Ppu.afterSkip
  split
  case isTrue h =>
    obtain ⟨-, hCycle, -⟩ := (skips_iff p).mp h
    rw [hCycle]
    dsimp only
    omega
  case isFalse => rfl

/-- `Advance()` goes one place on and wraps after the last (R463). -/
theorem advance_position {p : Ppu} (h : p.Valid) :
    (p.position + 1 ≠ 89342 ∧ (advance p).position = p.position + 1 ∧ (advance p).frameComplete = p.frameComplete ∧
        (advance p).oddFrame = p.oddFrame) ∨
      (p.position + 1 = 89342 ∧ (advance p).position = 0 ∧ (advance p).frameComplete = true ∧
        (advance p).oddFrame = !p.oddFrame) := by
  obtain ⟨hFirst, hLast⟩ := h.scanline
  have hCycle := h.cycle
  unfold advance Ppu.position
  split
  case isTrue hc => exact .inl ⟨by omega, by dsimp only; omega, rfl, rfl⟩
  case isFalse hc =>
    split
    case isTrue hs => exact .inl ⟨by omega, by dsimp only; omega, rfl, rfl⟩
    case isFalse hs => exact .inr ⟨by omega, rfl, rfl, rfl⟩

theorem afterSkip_valid {p : Ppu} (h : p.Valid) : p.afterSkip.Valid := oddFrameSkip_eq p ▸ oddFrameSkip_valid h

theorem Ppu.PlaceAs.position {p q : Ppu} (h : p.PlaceAs q) : q.position = p.position := by
  rw [Ppu.position, Ppu.position, h.scanline, h.cycle]

/-- The place a call leaves, and what passing the last place does. -/
theorem ppuClock_position {s : State} (hs : s.ppu.Valid) {n : Int}
    (hn : n = s.ppu.position + if s.ppu.skips = true then 2 else 1) :
    (n ≠ 89342 ∧ (ppuClock s).ppu.position = n ∧ (ppuClock s).ppu.frameComplete = s.ppu.frameComplete ∧
        (ppuClock s).ppu.oddFrame = s.ppu.oddFrame) ∨
      (n = 89342 ∧ (ppuClock s).ppu.position = 0 ∧ (ppuClock s).ppu.frameComplete = true ∧
        (ppuClock s).ppu.oddFrame = !s.ppu.oddFrame) := by
  have hPlace := ppuClock_place s
  rw [hn, ← afterSkip_position, hPlace.position, hPlace.frameComplete, hPlace.oddFrame]
  exact advance_position (afterSkip_valid hs)

end Sys2Proof.Machine
end

section
/-! PROOFS. The position. -/
open Sys2Proof Sys2Proof.Machine

/-- Settles O52: the call works on the place after the skip and goes on by one, and the last place wraps. -/
theorem positionGoesRoundTheFrame : Obligations.PositionGoesRoundTheFrame := by
  intro s hs
  dsimp only
  rcases ppuClock_position (s.inv_iff.mp hs).2.ppu rfl with ⟨hn, hPos, hFrame, hOdd⟩ | ⟨hn, hPos, hFrame, hOdd⟩
  · rw [if_neg hn, if_neg hn, hPos, hFrame, hOdd, decide_eq_false hn, Bool.or_false]
    exact ⟨rfl, rfl, rfl⟩
  · rw [if_pos hn, if_pos hn, hPos, hFrame, hOdd, decide_eq_true hn, Bool.or_true]
    exact ⟨rfl, rfl, rfl⟩
end

section
/-! SUPPORT. What a call of the clock leaves of the background and of `v`, and the scroll increments (`50_ppu.md` R422 to
R433). -/
namespace Sys2Proof.Machine

/-- A frame skips from scanline 0 alone (R422). -/
theorem afterSkip_of_scanline {p : Ppu} (h : p.scanline ≠ 0) : p.afterSkip = p := by
  rw [Ppu.afterSkip, if_neg fun hs => h ((skips_iff p).mp hs).1]

theorem afterSkip_of_not_rendering {p : Ppu} (h : p.rendering = false) : p.afterSkip = p := by
  have hSkips : ¬p.skips = true := fun hs => by simp [h, skips_iff] at hs
  rw [Ppu.afterSkip, if_neg hSkips]

theorem preRenderClear_clears {p : Ppu} (hLine : p.scanline = -1) (hCycle : p.cycle = 1) :
    preRenderClear p.afterSkip =
      { p with verticalBlank := false, spriteZeroHit := false, spriteOverflow := false, sprCount := 0
               slots := p.slots.map clearShifters, spr0Possible := false, spr0Rendering := false } := by
  rw [afterSkip_of_scanline (by omega), preRenderClear, if_pos ⟨decide_eq_true hLine, hCycle⟩]

theorem preRenderClear_keeps {p : Ppu} (h : ¬(p.scanline = -1 ∧ p.cycle = 1)) :
    preRenderClear p.afterSkip = p.afterSkip := by
  refine if_neg fun ⟨hLine, hCycle⟩ => h ?_
  have hScanline : p.scanline = -1 := of_decide_eq_true hLine
  rw [afterSkip_of_scanline (by omega)] at hCycle
  exact ⟨hScanline, hCycle⟩

/-- `q` has the background pipeline of `p`. -/
structure Ppu.BackgroundAs (p q : Ppu) : Prop where
  v : q.v = p.v
  id : q.bgNextId = p.bgNextId
  attr : q.bgNextAttr = p.bgNextAttr
  lsb : q.bgNextLsb = p.bgNextLsb
  msb : q.bgNextMsb = p.bgNextMsb
  patLo : q.bgPatLo = p.bgPatLo
  patHi : q.bgPatHi = p.bgPatHi
  attLo : q.bgAttLo = p.bgAttLo
  attHi : q.bgAttHi = p.bgAttHi

/-- The steps of the sprites and of the clear are apart from the background. -/
theorem linePpu_background (s : State) : (s.ppu.afterSkip.background s.ppuByte).BackgroundAs s.linePpu := by
  unfold State.linePpu Ppu.evaluated preRenderClear
  split_ifs <;> exact ⟨rfl, rfl, rfl, rfl, rfl, rfl, rfl, rfl, rfl⟩

theorem ppuClock_background_of_line {s : State} (h : s.ppu.renderLine = true) :
    (s.ppu.afterSkip.background s.ppuByte).BackgroundAs (ppuClock s).ppu :=
  ppuClock_of_drawn (fun _ _ _ _ _ _ _ h => { h with })
    (drawn_of_line (fun _ _ h => { h with }) h (linePpu_background s))

theorem ppuClock_background_of_not_line {s : State} (h : s.ppu.renderLine = false) :
    s.ppu.BackgroundAs (ppuClock s).ppu := by
  refine ppuClock_of_drawn (fun _ _ _ _ _ _ _ h => { h with }) ?_
  rw [drawn_ppu_of_not_line h]
  unfold setVBlank
  split <;> exact ⟨rfl, rfl, rfl, rfl, rfl, rfl, rfl, rfl, rfl⟩

theorem rendering_eq (p : Ppu) : p.rendering = (p.mask.getLsbD 3 || p.mask.getLsbD 4) := rfl

theorem ppuClock_v_of_not_rendering {s : State} (h : s.ppu.rendering = false) : (ppuClock s).ppu.v = s.ppu.v := by
  cases hLine : s.ppu.renderLine with
  | true =>
    rw [(ppuClock_background_of_line hLine).v, afterSkip_of_not_rendering h]
    simp [Ppu.background, Ppu.nextV, h]
  | false => exact (ppuClock_background_of_not_line hLine).v

-- The scroll increments

/-- The horizontal increment field by field (R430). -/
theorem incrementX_fields (v : BitVec 15) :
    (coarseX (incrementX v)).toNat = ((coarseX v).toNat + 1) % 32 ∧
      (ntX (incrementX v) = ntX v ↔ coarseX v ≠ 31) ∧ ntY (incrementX v) = ntY v ∧
      coarseY (incrementX v) = coarseY v ∧ fineY (incrementX v) = fineY v := by
  unfold incrementX
  split
  case isTrue h => simp [withNtX, withCoarseX, h]
  case isFalse h =>
    simp [withCoarseX]
    exact h

/-- The vertical increment field by field (R431). -/
theorem incrementY_fields (v : BitVec 15) :
    (fineY (incrementY v)).toNat = ((fineY v).toNat + 1) % 8 ∧
      (coarseY (incrementY v)).toNat = (if fineY v ≠ 7 then (coarseY v).toNat
        else if coarseY v = 29 then 0 else ((coarseY v).toNat + 1) % 32) ∧
      (ntY (incrementY v) = ntY v ↔ ¬(fineY v = 7 ∧ coarseY v = 29)) ∧ ntX (incrementY v) = ntX v ∧
      coarseX (incrementY v) = coarseX v := by
  have hLast : fineY v < 7 ↔ fineY v ≠ 7 := by
    bv_omega
  unfold incrementY
  simp only [hLast]
  split
  case isTrue h =>
    simp [withFineY]
    exact fun h7 => absurd h7 h
  case isFalse h =>
    rw [not_not] at h
    split
    case isTrue h29 => simp [withFineY, withCoarseY, withNtY, h, h29]
    case isFalse h29 =>
      split
      case isTrue h31 => simp [withFineY, withCoarseY, h, h31]
      case isFalse h31 =>
        simp [withFineY, withCoarseY, h]
        exact h29

/-- From a cycle before the last the clock goes to the next one, if no frame skips. -/
theorem advance_of_lt {p : Ppu} (h : p.cycle < 340) : advance p = { p with cycle := p.cycle + 1 } := if_pos (by omega)

end Sys2Proof.Machine
end

section
/-! PROOFS. The scroll increments and their gate. -/
open Sys2Proof Sys2Proof.Machine

/-- Settles O50: the increments field by field; with rendering off nothing moves `v` and no frame skips. -/
theorem scrollMovesOnlyWhileRendering : Obligations.ScrollMovesOnlyWhileRendering := by
  refine ⟨fun p => ⟨fun h => ?_, fun h => ?_⟩, fun s hBackground hSprites => ?_⟩
  · simp [incrementScrollX, incrementScrollY, h]
  · obtain ⟨hCoarseX, hNtX, hKeptX⟩ := incrementX_fields p.v
    have hX : incrementScrollX p = { p with v := incrementX p.v } := if_pos h
    have hY : incrementScrollY p = { p with v := incrementY p.v } := if_pos h
    rw [hX, hY]
    obtain ⟨hntY, hcoarseY, hfineY⟩ := hKeptX
    exact ⟨rfl, rfl, hCoarseX, hNtX, hntY, hcoarseY, hfineY, incrementY_fields p.v⟩
  · have hOff : s.ppu.rendering = false := by rw [rendering_eq, hBackground, hSprites]; rfl
    have hFixed := ppuClock_fixed s
    have hPlace := ppuClock_place s
    rw [afterSkip_of_not_rendering hOff] at hPlace
    refine ⟨ppuClock_v_of_not_rendering hOff, hFixed.t, hFixed.fineX, fun hCycle => ?_⟩
    rw [advance_of_lt hCycle] at hPlace
    exact ⟨hPlace.cycle, hPlace.scanline⟩
end

section
/-! SUPPORT. What a call of the clock leaves of memory, when it ticks the mapper, and the flags of vertical blank
(`50_ppu.md` R407, R460 to R462). -/
namespace Sys2Proof.Machine

theorem drawn_work (s : State) : PpuWork s (drawn s) := by
  have hLine : PpuWork s (if s.ppu.renderLine then renderSteps s else s) := by
    split
    · exact (PpuWork.refl s).renderSteps
    · exact .refl s
  exact hLine.mapPpu fun _ => setVBlank_valid

/-- What the mapper's tick finds is the cartridge at the start of the call. -/
theorem composePixel_drawn_work (s : State) : PpuWork s (composePixel (drawn s)) := (drawn_work s).composePixel

theorem ppuClock_mapper (s : State) :
    (ppuClock s).cart.mapper =
      if (0 ≤ s.ppu.scanline ∧ s.ppu.scanline ≤ 239) ∧ s.ppu.afterSkip.cycle = s.params.mapperTickCycle then
        s.cart.mapper.scanline
      else s.cart.mapper := by
  have hFrame := (composePixel_drawn_work s).frame
  have hPlace := (drawn_place s).trans (composePixel_place _)
  have hCart : (composePixel (drawn s)).cart = s.cart := by rw [hFrame]
  have hParams : (composePixel (drawn s)).params = s.params := by rw [hFrame]
  have hScanline : (composePixel (drawn s)).ppu.scanline = s.ppu.scanline := hPlace.scanline
  have hTick : (ppuClock s).cart = (mapperTick (composePixel (drawn s))).cart := rfl
  simp only [hTick, mapperTick, Ppu.visibleLine, hScanline, hPlace.cycle, hParams, hCart, decide_eq_true_eq]
  split
  · rfl
  · rw [hCart]

@[simp] theorem Mapper.scanline_cram (m : Mapper) : m.scanline.cram = m.cram := by cases m <;> rfl

theorem ppuClock_memoryKept (s : State) : MemoryKept s (ppuClock s) := by
  have hFixed := ppuClock_fixed s
  have hFrame := ppuClock_frame s
  have hCram : (ppuClock s).cart.mapper.cram = s.cart.mapper.cram := by
    rw [ppuClock_mapper]
    split
    · exact Mapper.scanline_cram _
    · rfl
  intro l
  cases l with
  | ram k => rw [hFrame]; rfl
  | nt0 k => exact congrArg (Memory.read · k) hFixed.nt0
  | nt1 k => exact congrArg (Memory.read · k) hFixed.nt1
  | pal k => exact congrArg (Memory.read · k) hFixed.pal
  | oam k => exact congrArg (Memory.read · k) hFixed.oam
  | pt0 k => exact congrArg (Memory.read · k) hFixed.pt0
  | pt1 k => exact congrArg (Memory.read · k) hFixed.pt1
  | prg k => rw [hFrame]; rfl
  | chr k => rw [hFrame]; rfl
  | cram k => exact congrArg (Memory.read · k) hCram

-- Vertical blank

/-- The two flags of vertical blank hold `b` and `r`. -/
def Ppu.BlankIs (b r : Bool) (p : Ppu) : Prop := p.verticalBlank = b ∧ p.nmiPending = r

theorem ppuClock_blank {s : State} {b r : Bool} (h : (drawn s).ppu.BlankIs b r) : (ppuClock s).ppu.BlankIs b r :=
  ppuClock_of_drawn (fun _ _ _ _ _ _ _ h => h) h

theorem evaluated_blank {p : Ppu} {b r : Bool} (h : p.BlankIs b r) (offset : Nat) : (p.evaluated offset).BlankIs b r := by
  unfold Ppu.evaluated
  split <;> exact h

end Sys2Proof.Machine
end

section
/-! PROOFS. What the clock leaves unchanged, and vertical blank. -/
open Sys2Proof Sys2Proof.Machine

/-- Settles O51: the memories are those of the PPU, kept field by field, and of the cartridge, where only the mapper's
scanline state moves. -/
theorem ppuClockWritesNoMemory : Obligations.PpuClockWritesNoMemory := by
  intro s
  obtain ⟨hctrl, hmask, hoamAddr, hlatch, hbuffer, ht, hfineX⟩ := ppuClock_fixed s
  exact ⟨ppuClock_memoryKept s, ppuClock_frame s, ppuClock_mapper s, hctrl, hmask, hoamAddr, hlatch, hbuffer, ht, hfineX⟩

/-- Settles O54: outside the lines drawn only `setVBlank` acts on the flags, and on them only the clear does. -/
theorem verticalBlankRisesAndFallsOnce : Obligations.VerticalBlankRisesAndFallsOnce := by
  intro s
  dsimp only
  refine ⟨fun hRise => ppuClock_blank ?_, fun hFall => ppuClock_blank ?_, fun hRise hFall => ppuClock_blank ?_⟩
  · have hLine : s.ppu.renderLine = false := decide_eq_false (by omega)
    rw [drawn_ppu_of_not_line hLine, setVBlank, if_pos hRise]
    exact ⟨rfl, rfl⟩
  · have hLine : s.ppu.renderLine = true := decide_eq_true (by omega)
    refine drawn_of_line (fun _ _ h => h) hLine (evaluated_blank ?_ _)
    rw [preRenderClear_clears hFall.1 hFall.2]
    exact ⟨rfl, rfl⟩
  · cases hLine : s.ppu.renderLine with
    | true =>
      refine drawn_of_line (fun _ _ h => h) hLine (evaluated_blank ?_ _)
      rw [preRenderClear_keeps hFall]
      exact ⟨rfl, rfl⟩
    | false =>
      rw [drawn_ppu_of_not_line hLine, setVBlank, if_neg hRise]
      exact ⟨rfl, rfl⟩
end

section
/-! SUPPORT. The position through a whole step, and the end of the frame (`50_ppu.md` R421, R463). -/
namespace Sys2Proof.Machine

-- The position through the rest of a tick

theorem Ppu.PlaceAs.refl (p : Ppu) : p.PlaceAs p := ⟨rfl, rfl, rfl, rfl⟩

theorem AfterReads.place {s t : State} (h : AfterReads s t) : s.ppu.PlaceAs t.ppu := by
  unfold AfterReads at h
  rw [h]
  exact ⟨rfl, rfl, rfl, rfl⟩

theorem ppuWrite_place (a : Word) (v : Byte) (s : State) : s.ppu.PlaceAs (ppuWrite a v s).ppu := by
  unfold ppuWrite cartPpuWrite
  dsimp only
  cases ppuMapWrite s.cart (a.toNat % 0x4000) with
  | some o => exact .refl _
  | none =>
    dsimp only
    unfold Ppu.ptWrite Ppu.ntWrite
    split_ifs <;> exact ⟨rfl, rfl, rfl, rfl⟩

theorem ppuPortWrite_place (port : BitVec 3) (d : Byte) (s : State) : s.ppu.PlaceAs (ppuPortWrite port d s).ppu := by
  have hData := ppuWrite_place (s.ppu.v.setWidth 16) d s
  unfold ppuPortWrite
  split
  case h_6 =>
    unfold Ppu.writeScroll
    split <;> exact ⟨rfl, rfl, rfl, rfl⟩
  case h_7 =>
    unfold Ppu.writeAddr
    split <;> exact ⟨rfl, rfl, rfl, rfl⟩
  case h_8 => exact hData.trans ⟨rfl, rfl, rfl, rfl⟩
  all_goals exact ⟨rfl, rfl, rfl, rfl⟩

/-- No bus write moves the position. -/
theorem memWrite_place (a : Word) (v : Byte) (s : State) : s.ppu.PlaceAs (memWrite a v s).ppu := by
  rcases bus_regions a with hRam | ⟨hLo, hHi⟩ | ⟨hLo, hHi⟩ | hCart
  · rw [memWrite_ram hRam]
    exact .refl _
  · rw [memWrite_port hLo hHi]
    exact ppuPortWrite_place _ v s
  · rcases memWrite_io hLo hHi v s with ⟨-, hWrite⟩ | hWrite | hWrite | hWrite <;> rw [hWrite] <;> exact .refl _
  · rw [memWrite_mapper hCart]
    exact .refl _

theorem BusPath.place {s u : State} (h : BusPath s u) : s.ppu.PlaceAs u.ppu := by
  induction h with
  | refl => exact .refl _
  | reads _ hr ih => exact ih.trans hr.place
  | write a v _ ih => exact ih.trans (memWrite_place a v _)

theorem dmaStep_place (s : State) : s.ppu.PlaceAs (dmaStep s).ppu := by
  unfold dmaStep
  split
  · split <;> exact .refl _
  · split
    · exact (memRead_afterReads _ s).1.place
    · exact ⟨rfl, rfl, rfl, rfl⟩

theorem slotStep_place {s u w : State} (h : slotStep s u = .next w) : u.ppu.PlaceAs w.ppu := by
  rcases slotStep_cases h with rfl | ⟨-, rfl⟩ | hStep
  · exact .refl _
  · exact dmaStep_place u
  · exact (cpuStep_busPath hStep).place

theorem hardwareInterrupt_place (vector : Word) (cost : Byte) (s : State) :
    s.ppu.PlaceAs (hardwareInterrupt vector cost s).ppu :=
  (BusPath.refl.hardwareInterrupt vector cost).place

theorem deliverNmi_place (s : State) : s.ppu.PlaceAs (deliverNmi s).ppu := by
  rcases deliverNmi_cases s with ⟨-, hNone⟩ | hTaken
  · rw [hNone]
    exact .refl _
  · have hCleared : s.ppu.PlaceAs (s.setPpu { s.ppu with nmiPending := false }).ppu := ⟨rfl, rfl, rfl, rfl⟩
    rw [hTaken]
    exact hCleared.trans (hardwareInterrupt_place _ _ _)

theorem deliverIrq_place (s : State) : s.ppu.PlaceAs (deliverIrq s).ppu := by
  rcases deliverIrq_cases s with ⟨-, hNone⟩ | hMasked | hTaken
  · rw [hNone]
    exact .refl _
  · rw [hMasked]
    exact .refl _
  · rw [hTaken]
    exact hardwareInterrupt_place irqVector 7 (s.setMapper s.cart.mapper.irqClear)

/-- After the PPU's clock nothing in a tick moves the position. -/
theorem step_place {s t : State} (h : step s = .next t) : (ppuClock (s.setSink none)).ppu.PlaceAs t.ppu := by
  obtain ⟨w, hSlot, rfl⟩ := step_cases h
  exact (slotStep_place hSlot).trans ((deliverNmi_place w).trans (deliverIrq_place _))

/-- At place 0 of the frame the PPU is at scanline -1, cycle 0. -/
theorem scanline_cycle_of_position_zero {p : Ppu} (h : p.Valid) (hp : p.position = 0) :
    p.scanline = -1 ∧ p.cycle = 0 := by
  have := h.scanline
  unfold Ppu.position at hp
  omega

/-- A step ends the frame, or leaves fewer places to its end. -/
theorem step_position {s t : State} (hs : s.inv = true) (h : step s = .next t) :
    s.ppu.position + 1 ≤ t.ppu.position ∨
      (t.ppu.frameComplete = true ∧ t.ppu.scanline = -1 ∧ t.ppu.cycle = 0) := by
  have hPlace := step_place h
  rcases ppuClock_position (s := s.setSink none) (s.inv_iff.mp hs).2.ppu rfl with ⟨-, hPos, -⟩ | ⟨-, hPos, hFrame, -⟩
  · left
    rw [hPlace.position, hPos, State.setSink_ppu]
    split <;> omega
  · right
    have hValid : t.ppu.Valid := (t.inv_iff.mp (stepKeepsTheInvariant s t hs h)).2.ppu
    exact ⟨hPlace.frameComplete.trans hFrame,
      scanline_cycle_of_position_zero hValid (hPlace.position.trans hPos)⟩

/-- The end of the frame is reached within the places that are left to it. -/
theorem frame_ends (n : Nat) : ∀ s : State, s.inv = true → 89342 - s.ppu.position ≤ n →
    ∃ (k : Nat) (t : State), 1 ≤ k ∧ k ≤ n ∧ Sys2Proof.core.run k s = .next t ∧ t.ppu.frameComplete = true ∧
      t.ppu.scanline = -1 ∧ t.ppu.cycle = 0 := by
  induction n with
  | zero =>
    intro s hs hn
    obtain ⟨-, hLast⟩ := (s.inv_iff.mp hs).2.ppu.scanline
    have hCycle := (s.inv_iff.mp hs).2.ppu.cycle
    unfold Ppu.position at hn
    omega
  | succ n ih =>
    intro s hs hn
    obtain ⟨t, hStep⟩ := step_next s
    rcases step_position hs hStep with hPos | hEnd
    · obtain ⟨k, u, hk, hkn, hRun, hu⟩ := ih t (stepKeepsTheInvariant s t hs hStep) (by omega)
      exact ⟨k + 1, u, by omega, by omega, (core_run_succ hStep k).trans hRun, hu⟩
    · exact ⟨1, t, le_rfl, by omega, core_run_succ hStep 0, hEnd⟩

end Sys2Proof.Machine
end

section
/-! PROOFS. The end of a frame. -/
open Sys2Proof Sys2Proof.Machine

/-- Settles O53: every step leaves fewer places to the end of the frame, of which there are at most 89342. -/
theorem everyFrameCompletes : Obligations.EveryFrameCompletes := by
  intro s hs
  refine frame_ends 89342 s hs ?_
  have := (s.inv_iff.mp hs).2.ppu.scanline
  unfold Ppu.position
  omega

end

section
/-! SUPPORT. The addresses and the values of the background pipeline, in numbers (`50_ppu.md` R424 to R433). -/
namespace Sys2Proof.Machine

theorem setWidth16_toNat {n : Nat} (h : n ≤ 16) (x : BitVec n) : (x.setWidth 16).toNat = x.toNat :=
  BitVec.toNat_setWidth_of_le h

/-- Phase `k` of the window is the cycles that leave `k + 1` modulo 8 (R425). -/
theorem inPhase_iff (p : Ppu) {k : Nat} (hk : k < 8) :
    p.inPhase k = true ↔
      ((2 ≤ p.cycle ∧ p.cycle ≤ 257) ∨ (321 ≤ p.cycle ∧ p.cycle ≤ 337)) ∧ p.cycle % 8 = (k + 1) % 8 := by
  rw [Ppu.inPhase, Bool.and_eq_true, fetchWindow_iff, decide_eq_true_eq]
  omega

/-- The nametable address of a tile is 12 bits of `v` above 0x2000 (R427). -/
theorem tileIdAddr_eq (v : BitVec 15) : tileIdAddr v = BitVec.ofNat 16 (0x2000 + v.toNat % 0x1000) := by
  have hBase : (0x2000 : Word).toNat = 0x2000 := rfl
  have hLow : (v.setWidth 16 &&& 0x0FFF).toNat = v.toNat % 0x1000 := by
    rw [BitVec.toNat_and, setWidth16_toNat (by decide)]
    exact Nat.and_two_pow_sub_one_eq_mod v.toNat 12
  apply BitVec.eq_of_toNat_eq
  rw [tileIdAddr, toNat_or_low 12 rfl (by omega), hLow, hBase, BitVec.toNat_ofNat]
  omega

/-- The address of `bg_next_attr`: a table for each nametable, a byte for 4 by 4 tiles (R428). -/
theorem attrAddr_eq (v : BitVec 15) :
    attrAddr v = BitVec.ofNat 16 (0x23C0 + 0x800 * (ntY v).toNat + 0x400 * (ntX v).toNat +
      8 * ((coarseY v).toNat / 4) + (coarseX v).toNat / 4) := by
  have hx := (coarseX v).isLt
  have hy := (coarseY v).isLt
  have hCol : ((coarseX v).setWidth 16 >>> 2).toNat = (coarseX v).toNat / 4 := by
    rw [BitVec.toNat_ushiftRight, setWidth16_toNat (by decide), Nat.shiftRight_eq_div_pow]
  have hRow : (((coarseY v).setWidth 16 >>> 2) <<< 3).toNat = 8 * ((coarseY v).toNat / 4) := by
    rw [BitVec.toNat_shiftLeft, BitVec.toNat_ushiftRight, setWidth16_toNat (by decide), Nat.shiftRight_eq_div_pow,
      Nat.shiftLeft_eq]
    omega
  have hDef : attrAddr v = (0x23C0 : Word) ||| ((ntY v).setWidth 16 <<< 11) ||| ((ntX v).setWidth 16 <<< 10) |||
    (((coarseY v).setWidth 16 >>> 2) <<< 3) ||| ((coarseX v).setWidth 16 >>> 2) := rfl
  have hTable : ∀ y x : BitVec 1, ((0x23C0 : Word) ||| (y.setWidth 16 <<< 11) ||| (x.setWidth 16 <<< 10)).toNat =
      0x23C0 + 0x800 * y.toNat + 0x400 * x.toNat := by decide
  have hRows := toNat_or_low 6 (by rw [hTable (ntY v) (ntX v)]; omega) (lt_of_eq_of_lt hRow (by omega))
  rw [hTable, hRow] at hRows
  apply BitVec.eq_of_toNat_eq
  rw [hDef, toNat_or_low 3 (by rw [hRows]; omega) (by omega), hRows, hCol, BitVec.toNat_ofNat]
  omega

/-- The two palette bits that a tile selects of its byte (R428). -/
theorem attrSelect_toNat (v : BitVec 15) (a : Byte) :
    (attrSelect v a).toNat = a.toNat / (if (coarseY v).toNat / 2 % 2 = 1 then 16 else 1) /
      (if (coarseX v).toNat / 2 % 2 = 1 then 4 else 1) % 4 := by
  have hBit : ∀ x : BitVec 5, x.getLsbD 1 = decide (x.toNat / 2 % 2 = 1) := by decide
  simp only [attrSelect, hBit, decide_eq_true_eq]
  split <;> split <;> simp [Nat.shiftRight_eq_div_pow, Nat.div_div_eq_div_mul]

/-- The low-plane address of the next tile's row (R429). -/
theorem patternAddr_eq (p : Ppu) :
    patternAddr p =
      BitVec.ofNat 16 (0x1000 * (p.ctrl.getLsbD 4).toNat + 16 * p.bgNextId.toNat + (fineY p.v).toNat) := by
  have hTable : ∀ b : Bool, ((bitByte b).setWidth 16 <<< 12).toNat = 0x1000 * b.toNat := by decide
  apply BitVec.eq_of_toNat_eq
  rw [patternAddr, Ppu.patternBackground, BitVec.toNat_add, BitVec.toNat_add, hTable, BitVec.toNat_shiftLeft,
    setWidth16_toNat (by decide), setWidth16_toNat (by decide), Nat.shiftLeft_eq, BitVec.toNat_ofNat]
  omega

theorem patternAddr_high (p : Ppu) :
    patternAddr p + 8 =
      BitVec.ofNat 16 (0x1000 * (p.ctrl.getLsbD 4).toNat + 16 * p.bgNextId.toNat + (fineY p.v).toNat + 8) := by
  rw [patternAddr_eq]
  exact (BitVec.ofNat_add _ _).symm

theorem loadLow_toNat (r : BitVec 16) (low : Byte) : (loadLow r low).toNat = r.toNat / 256 * 256 + low.toNat := by
  rw [loadLow, pair_toNat, hi8_toNat]
  omega

/-- A background shifter after a cycle (R424, R426). -/
theorem shifter_toNat (p : Ppu) (r : BitVec 16) (low : Byte) :
    (p.shifter r low).toNat =
      let r := if p.fetchWindow = true ∧ p.mask.getLsbD 3 = true then 2 * r.toNat % 65536 else r.toNat
      if p.inPhase 0 = true then r / 256 * 256 + low.toNat else r := by
  have hShift : (p.shifted r).toNat =
      if p.fetchWindow = true ∧ p.mask.getLsbD 3 = true then 2 * r.toNat % 65536 else r.toNat := by
    unfold Ppu.shifted Ppu.renderBackground
    simp only [Bool.and_eq_true]
    split
    · rw [BitVec.toNat_shiftLeft, Nat.shiftLeft_eq, Nat.mul_comm]
    · rfl
  unfold Ppu.shifter
  split
  · rw [loadLow_toNat, hShift]
  · exact hShift

/-- The two palette bits spread over the low byte of their shifters (R426). -/
theorem spread8_attr (b : BitVec 2) :
    (spread8 (b.getLsbD 0)).toNat = 255 * (b.toNat % 2) ∧ (spread8 (b.getLsbD 1)).toNat = 255 * (b.toNat / 2) := by
  revert b
  decide

theorem copyX_fields (t v : BitVec 15) :
    coarseX (copyX t v) = coarseX t ∧ ntX (copyX t v) = ntX t ∧ coarseY (copyX t v) = coarseY v ∧
      ntY (copyX t v) = ntY v ∧ fineY (copyX t v) = fineY v := by
  simp [copyX, withNtX, withCoarseX]

theorem copyY_fields (t v : BitVec 15) :
    coarseX (copyY t v) = coarseX v ∧ ntX (copyY t v) = ntX v ∧ coarseY (copyY t v) = coarseY t ∧
      ntY (copyY t v) = ntY t ∧ fineY (copyY t v) = fineY t := by
  simp [copyY, withFineY, withNtY, withCoarseY]

-- `v` after a cycle, case by case

section
variable {p : Ppu}

theorem nextV_across (h : p.rendering = true) (h7 : p.inPhase 7 = true) :
    p.nextV = if p.cycle = 256 then incrementY (incrementX p.v) else incrementX p.v := by
  rw [Ppu.nextV, if_pos h, if_pos h7]

theorem nextV_copyX (h : p.rendering = true) (hCycle : p.cycle = 257) : p.nextV = copyX p.t p.v := by
  have h7 : ¬p.inPhase 7 = true := by
    rw [inPhase_iff p (by decide)]
    omega
  rw [Ppu.nextV, if_pos h, if_neg h7, if_pos hCycle]

theorem nextV_copyY (h : p.rendering = true) (hLine : p.scanline = -1) (hLo : 280 ≤ p.cycle) (hHi : p.cycle ≤ 304) :
    p.nextV = copyY p.t p.v := by
  have h7 : ¬p.inPhase 7 = true := by
    rw [inPhase_iff p (by decide)]
    omega
  rw [Ppu.nextV, if_pos h, if_neg h7, if_neg (by omega), if_pos ⟨decide_eq_true hLine, hLo, hHi⟩]

theorem nextV_kept (h7 : ¬(p.rendering = true ∧ p.inPhase 7 = true)) (hX : ¬(p.rendering = true ∧ p.cycle = 257))
    (hY : ¬(p.rendering = true ∧ p.scanline = -1 ∧ 280 ≤ p.cycle ∧ p.cycle ≤ 304)) : p.nextV = p.v := by
  unfold Ppu.nextV Ppu.preRenderLine
  split_ifs with hR hPhase h256 hCycle hTransfer
  · exact absurd ⟨hR, hPhase⟩ h7
  · exact absurd ⟨hR, hPhase⟩ h7
  · exact absurd ⟨hR, hCycle⟩ hX
  · exact absurd ⟨hR, of_decide_eq_true hTransfer.1, hTransfer.2⟩ hY
  · rfl
  · rfl

end

end Sys2Proof.Machine
end

section
/-! PROOFS. The background pipeline. -/
open Sys2Proof Sys2Proof.Machine

/-- Settles O12: on a line drawn the pipeline is the one `Ppu.background` states, whose phases are the statement's cycles
modulo 8; on the other lines it is kept. -/
theorem backgroundPipelineFetchesAndShifts : Obligations.BackgroundPipelineFetchesAndShifts := by
  intro s p q c line window byte x y row shifted moves across fromT
  by_cases hLine : line
  · obtain ⟨hv, hid, hattr, hlsb, hmsb, hpatLo, hpatHi, hattLo, hattHi⟩ :=
      ppuClock_background_of_line ((renderLine_iff p).mpr hLine)
    have hWindow : window ↔ p.afterSkip.fetchWindow = true :=
      (and_iff_right hLine).trans (fetchWindow_iff p.afterSkip).symm
    have hPhase : ∀ k < 8, (window ∧ c % 8 = (k + 1) % 8) ↔ p.afterSkip.inPhase k = true := fun k hk =>
      (and_congr_left' (and_iff_right hLine)).trans (inPhase_iff p.afterSkip hk).symm
    have hMoves : moves ↔ p.afterSkip.rendering = true := by
      rw [rendering_eq, Bool.or_eq_true]
      exact and_iff_right hLine
    have hShifter : ∀ (old : BitVec 16) (low : Byte), shifted old (p.afterSkip.shifter old low) low.toNat := by
      intro old low
      have h := shifter_toNat p.afterSkip old low
      simp only [← hWindow, ← hPhase 0 (by decide)] at h
      exact h
    obtain ⟨hSpreadLo, hSpreadHi⟩ := spread8_attr p.bgNextAttr
    refine ⟨?_, ?_, ?_, ?_, ?_, ?_, ?_, ?_, fun h h256 => ?_, fun h h256 => ?_, fun h h257 => ?_, fun h => ?_,
      fun h h257 hT => ?_⟩
    · exact hid.trans (if_congr (or_congr (hPhase 0 (by decide)).symm (and_iff_right hLine).symm)
        (congrArg s.ppuByte (tileIdAddr_eq p.v)) rfl)
    · refine (congrArg BitVec.toNat hattr).trans ((apply_ite BitVec.toNat _ _ _).trans
        (if_congr (hPhase 2 (by decide)).symm ?_ rfl))
      rw [attrSelect_toNat, attrAddr_eq]
      rfl
    · exact hlsb.trans (if_congr (hPhase 4 (by decide)).symm (congrArg s.ppuByte (patternAddr_eq _)) rfl)
    · exact hmsb.trans (if_congr (hPhase 6 (by decide)).symm (congrArg s.ppuByte (patternAddr_high _)) rfl)
    · exact hpatLo ▸ hShifter p.bgPatLo p.bgNextLsb
    · exact hpatHi ▸ hShifter p.bgPatHi p.bgNextMsb
    · rw [← hSpreadLo]
      exact hattLo ▸ hShifter p.bgAttLo _
    · rw [← hSpreadHi]
      exact hattHi ▸ hShifter p.bgAttHi _
    · obtain ⟨hR, hAcross⟩ := h
      have hX : incrementScrollX p = { p with v := incrementX p.v } := if_pos (hMoves.mp hR)
      rw [hX]
      exact hv.trans ((nextV_across (hMoves.mp hR) ((hPhase 7 (by decide)).mp hAcross)).trans (if_neg h256))
    · obtain ⟨hR, hAcross⟩ := h
      rw [incrementScrollY_incrementScrollX]
      refine hv.trans ((nextV_across (hMoves.mp hR) ((hPhase 7 (by decide)).mp hAcross)).trans ((if_pos h256).trans ?_))
      exact (if_pos (hMoves.mp hR)).symm
    · rw [show q.v = copyX p.t p.v from hv.trans (nextV_copyX (hMoves.mp h) h257)]
      exact copyX_fields p.t p.v
    · obtain ⟨hR, hPre, hLo, hHi⟩ := h
      rw [show q.v = copyY p.t p.v from hv.trans (nextV_copyY (hMoves.mp hR) hPre hLo hHi)]
      exact copyY_fields p.t p.v
    · refine hv.trans (nextV_kept (fun ⟨hR, h7⟩ => h ⟨hMoves.mpr hR, (hPhase 7 (by decide)).mpr h7⟩)
        (fun ⟨hR, hC⟩ => h257 ⟨hMoves.mpr hR, hC⟩) (fun ⟨hR, hC⟩ => hT ⟨hMoves.mpr hR, hC⟩))
  · obtain ⟨hv, hid, hattr, hlsb, hmsb, hpatLo, hpatHi, hattLo, hattHi⟩ :=
      ppuClock_background_of_not_line (Bool.eq_false_of_not_eq_true (mt (renderLine_iff p).mp hLine))
    have hWindow : ¬window := fun h => hLine h.1
    have hMoves : ¬moves := fun h => hLine h.1
    have hPhase : ∀ j : Nat, ¬(window ∧ c % 8 = j) := fun _ h => hWindow h.1
    have hKept : ∀ (r : BitVec 16) (low : Nat), shifted r r low := by
      intro r low
      simp only [shifted, hWindow, false_and, if_false]
    refine ⟨hid.trans (if_neg fun h => ?_).symm, (congrArg BitVec.toNat hattr).trans (if_neg (hPhase 3)).symm,
      hlsb.trans (if_neg (hPhase 5)).symm, hmsb.trans (if_neg (hPhase 7)).symm, hpatLo ▸ hKept _ _, hpatHi ▸ hKept _ _,
      hattLo ▸ hKept _ _, hattHi ▸ hKept _ _, fun h => absurd h.1 hMoves, fun h => absurd h.1 hMoves,
      fun h => absurd h hMoves, fun h => absurd h.1 hMoves, fun _ _ _ => hv⟩
    exact h.elim (hPhase 1) fun h => hLine h.1
end

section
/-! SUPPORT. The sprite pipeline: the state the pattern fetches start from, the slots by their index, and the row address
in numbers (`50_ppu.md` R442 to R445). -/
namespace Sys2Proof.Machine

-- Where a call works

theorem afterSkip_of_cycle {p : Ppu} (h : p.cycle ≠ 0) : p.afterSkip = p := by
  rw [Ppu.afterSkip, if_neg fun hs => h ((skips_iff p).mp hs).2.1]

/-- A skip goes from cycle 0 to cycle 1, where no step of the sprites acts on a visible line. -/
theorem afterSkip_cycle_cases (p : Ppu) : p.afterSkip.cycle = p.cycle ∨ (p.cycle = 0 ∧ p.afterSkip.cycle = 1) := by
  by_cases h : p.skips = true
  · exact .inr ⟨((skips_iff p).mp h).2.1, if_pos h⟩
  · exact .inl (if_neg h)

-- What the line's steps leave, by position

theorem linePpu_of_clears {s : State} (hLine : s.ppu.scanline = -1) (hCycle : s.ppu.cycle = 1) :
    s.linePpu = Ppu.background s.ppuByte
      { s.ppu with verticalBlank := false, spriteZeroHit := false, spriteOverflow := false, sprCount := 0
                   slots := s.ppu.slots.map clearShifters, spr0Possible := false, spr0Rendering := false } := by
  rw [State.linePpu, preRenderClear_clears hLine hCycle]
  refine if_neg fun h => ?_
  have h257 : s.ppu.cycle = 257 := h.1
  omega

theorem linePpu_of_evaluates {s : State} (hLine : 0 ≤ s.ppu.scanline) (hCycle : s.ppu.cycle = 257) :
    s.linePpu = evaluateSprites s.params.spriteEvalOffset (s.ppu.background s.ppuByte) := by
  rw [State.linePpu, preRenderClear_keeps (by omega), afterSkip_of_cycle (by omega)]
  exact if_pos ⟨hCycle, hLine⟩

theorem linePpu_else {s : State} (hClears : ¬(s.ppu.scanline = -1 ∧ s.ppu.cycle = 1))
    (hEvaluates : ¬(0 ≤ s.ppu.scanline ∧ s.ppu.cycle = 257)) : s.linePpu = s.ppu.afterSkip.background s.ppuByte := by
  rw [State.linePpu, preRenderClear_keeps hClears]
  refine if_neg fun ⟨h257, hLine⟩ => hEvaluates ⟨hLine, ?_⟩
  have h257 : s.ppu.afterSkip.cycle = 257 := h257
  have := afterSkip_cycle_cases s.ppu
  omega

-- The slots by their index

theorem getElem?_onFirst (n : Nat) (f : Slot → Slot) (l : List Slot) (k : Nat) :
    (onFirst n f l)[k]? = l[k]?.map fun sl => if k < n then f sl else sl := by
  induction l generalizing n k with
  | nil => simp [onFirst]
  | cons x l ih =>
    cases n with
    | zero => simp [onFirst]
    | succ n =>
      cases k with
      | zero => simp [onFirst]
      | succ k => simp [onFirst, ih]

/-- The shift of one slot, in numbers (R445). -/
theorem shiftSlot_eq (sl : Slot) :
    shiftSlot sl = if 0 < sl.x.toNat then { sl with x := BitVec.ofNat 8 (sl.x.toNat - 1) }
      else { sl with lo := BitVec.ofNat 8 (2 * sl.lo.toNat), hi := BitVec.ofNat 8 (2 * sl.hi.toNat) } := by
  have hDouble : ∀ b : Byte, b <<< 1 = BitVec.ofNat 8 (2 * b.toNat) := by
    intro b
    apply BitVec.eq_of_toNat_eq
    rw [BitVec.toNat_shiftLeft, Nat.shiftLeft_eq, BitVec.toNat_ofNat, Nat.mul_comm]
  unfold shiftSlot
  by_cases h : sl.x = 0
  · rw [if_pos h, if_neg (by simp [h]), hDouble, hDouble]
  · have hPos : 0 < sl.x.toNat := Nat.pos_of_ne_zero fun h0 => h (BitVec.eq_of_toNat_eq h0)
    have hDown : sl.x - 1 = BitVec.ofNat 8 (sl.x.toNat - 1) := by bv_omega
    rw [if_neg h, if_pos hPos, hDown]

-- The pattern fetches

/-- Where reads draw no free value the pattern fetches are made slot by slot, from one state. -/
theorem fetchSlots_eq_onFirst {u : State} (hPure : ∀ a : Word, (ppuRead a u).2 = u) (n : Nat) (l : List Slot) :
    (fetchSlots n l u).1 = onFirst n (fun sl => (fetchSlot sl u).1) l := by
  have hState : ∀ sl : Slot, (fetchSlot sl u).2 = u := by
    intro sl
    simp only [fetchSlot, hPure]
  induction l generalizing n with
  | nil => cases n <;> rfl
  | cons x l ih =>
    cases n with
    | zero => rfl
    | succ n => simp only [fetchSlots, onFirst, hState, ih]

/-- The patterns of a slot: two bytes at its row address, reversed as its bit 6 of `attr` says (R442, R444). -/
theorem fetchSlot_eq {u : State} (hPure : ∀ a : Word, (ppuRead a u).2 = u) (sl : Slot) :
    (fetchSlot sl u).1 =
      let a := spriteRowAddr u.ppu sl (spriteDiff u.params.spriteEvalOffset u.ppu sl.y)
      { sl with lo := flipX sl (u.ppuByte a), hi := flipX sl (u.ppuByte (a + 8)) } := by
  simp only [fetchSlot, hPure, State.ppuByte]

theorem getLsbD_flipX (sl : Slot) (b : Byte) {j : Nat} (hj : j < 8) :
    (flipX sl b).getLsbD j = b.getLsbD (if sl.attr.getLsbD 6 = true then 7 - j else j) := by
  unfold flipX reverse8
  split
  · rw [BitVec.getLsbD_reverse, BitVec.getMsbD, decide_eq_true hj, Bool.true_and]
  · rfl

/-- The line of a tile that a row shows, from the top or from the bottom (R443). -/
theorem spriteLine_toNat (flip : Bool) {row : Nat} (h : row < 16) :
    (if flip = true then 7 - (BitVec.ofNat 16 row &&& 7) else BitVec.ofNat 16 row &&& 7).toNat =
      if flip = true then 7 - row % 8 else row % 8 := by
  cases flip <;> interval_cases row <;> rfl

/-- The row address of an 8x8 sprite as a sum. -/
theorem shortAddr_toNat (table : Bool) (id : Byte) {r : Word} (hr : r.toNat < 16) :
    (((bitByte table).setWidth 16 <<< 12) ||| (id.setWidth 16 <<< 4) ||| r).toNat =
      0x1000 * table.toNat + 16 * id.toNat + r.toNat := by
  have hTable : ((bitByte table).setWidth 16 <<< 12).toNat = 0x1000 * table.toNat := by cases table <;> rfl
  have hTile : (id.setWidth 16 <<< 4).toNat = 16 * id.toNat := by
    rw [BitVec.toNat_shiftLeft, setWidth16_toNat (by decide), Nat.shiftLeft_eq]
    omega
  have hHigh := toNat_or_low 12 (by rw [hTable]; omega) (lt_of_eq_of_lt hTile (by omega))
  rw [toNat_or_low 4 (by rw [hHigh]; omega) hr, hHigh, hTable, hTile]

/-- The row address of an 8x16 sprite as a sum. -/
theorem tallAddr_toNat (half : Bool) (id : Byte) {r : Word} (hr : r.toNat < 16) :
    (((id &&& 0x01).setWidth 16 <<< 12) |||
        (((id &&& 0xFE).setWidth 16 + (bitByte half).setWidth 16) <<< 4) ||| r).toNat =
      0x1000 * (id.toNat % 2) + 16 * (id.toNat / 2 * 2 + half.toNat) + r.toNat := by
  have hBit : (id &&& 0x01).toNat = id.toNat % 2 := Nat.and_two_pow_sub_one_eq_mod id.toNat 1
  have hEven : (id &&& 0xFE).toNat = id.toNat / 2 * 2 := by
    revert id
    decide
  have hHalf := Bool.toNat_le half
  have hTable : ((id &&& 0x01).setWidth 16 <<< 12).toNat = 0x1000 * (id.toNat % 2) := by
    rw [BitVec.toNat_shiftLeft, setWidth16_toNat (by decide), hBit, Nat.shiftLeft_eq]
    omega
  have hTile : (((id &&& 0xFE).setWidth 16 + (bitByte half).setWidth 16) <<< 4).toNat =
      16 * (id.toNat / 2 * 2 + half.toNat) := by
    rw [BitVec.toNat_shiftLeft, BitVec.toNat_add, setWidth16_toNat (by decide), setWidth16_toNat (by decide), hEven,
      bitByte_toNat, Nat.shiftLeft_eq]
    omega
  have hHigh := toNat_or_low 12 (by rw [hTable]; omega) (lt_of_eq_of_lt hTile (by omega))
  rw [toNat_or_low 4 (by rw [hHigh]; omega) hr, hHigh, hTable, hTile]

/-- The row address for every row of the sprite (R443). -/
theorem spriteRowAddr_eq (p : Ppu) (sl : Slot) {row : Nat} (h : row < if p.ctrl.getLsbD 5 = true then 16 else 8) :
    spriteRowAddr p sl row = BitVec.ofNat 16
      (spriteRowPlace (p.ctrl.getLsbD 5) (p.ctrl.getLsbD 3) sl.id.toNat (sl.attr.getLsbD 7) row) := by
  have hRow : BitVec.ofInt 16 row = BitVec.ofNat 16 row := BitVec.ofInt_natCast 16 row
  have hId := sl.id.isLt
  apply BitVec.eq_of_toNat_eq
  unfold spriteRowAddr spriteRowPlace Ppu.spriteSize Ppu.patternSprite
  rw [hRow, BitVec.toNat_ofNat]
  generalize sl.attr.getLsbD 7 = flip
  have hBound : (if flip = true then 7 - row % 8 else row % 8) < 8 := by split <;> omega
  cases hTall : p.ctrl.getLsbD 5 with
  | true =>
    rw [hTall, if_pos rfl] at h
    have hLine := spriteLine_toNat flip h
    have hHalf : (if (row : Int) < 8 then flip else !flip).toNat = if (8 ≤ row) = (flip = true) then 0 else 1 := by
      cases flip <;> by_cases h8 : 8 ≤ row <;> simp [h8] <;> omega
    have hOne := Bool.toNat_le (if (row : Int) < 8 then flip else !flip)
    dsimp only
    rw [if_pos rfl, if_pos rfl, tallAddr_toNat _ _ (by omega), hLine, ← hHalf]
    omega
  | false =>
    rw [hTall, if_neg Bool.false_ne_true] at h
    have hLine : (if flip = true then 7 - BitVec.ofNat 16 row else BitVec.ofNat 16 row).toNat =
        if flip = true then 7 - row % 8 else row % 8 := by
      cases flip <;> interval_cases row <;> rfl
    have hOne := Bool.toNat_le (p.ctrl.getLsbD 3)
    dsimp only
    rw [if_neg Bool.false_ne_true, if_neg Bool.false_ne_true, shortAddr_toNat _ _ (by omega), hLine]
    omega

-- The sprites after a call

theorem getElem?_fetchSlots_of_le {n k : Nat} (h : n ≤ k) (l : List Slot) (u : State) :
    (fetchSlots n l u).1[k]? = l[k]? := by
  induction l generalizing n k u with
  | nil => cases n <;> rfl
  | cons x l ih =>
    cases n with
    | zero => rfl
    | succ n =>
      cases k with
      | zero => omega
      | succ k => exact ih (Nat.le_of_succ_le_succ h) _

/-- The pattern fetches start from the state the fetch of the tile id leaves, which is all that comes before them in
cycle 340. -/
theorem lineSteps_at_fetch {s : State} (h : s.ppu.cycle = 340) : lineSteps s = fetchTileId s := by
  have hKept : s.setPpu (preRenderClear s.ppu.afterSkip) = s := by
    rw [preRenderClear_keeps (by omega), afterSkip_of_cycle (by omega)]
    rfl
  have hWindow : ¬s.ppu.fetchWindow = true := by
    rw [fetchWindow_iff]
    omega
  have hCycle : (fetchTileId s).ppu.cycle = 340 := by rw [fetchTileId_ppu, h]
  have hTransfer : preRenderTransferY (fetchTileId s).ppu = (fetchTileId s).ppu := if_neg (by omega)
  rw [lineSteps, hKept, backgroundSteps, pipelineStep, if_neg hWindow, mapPpu_of_fixed (atCycle256_of_ne (by omega)),
    mapPpu_of_fixed (atCycle257_of_ne (by omega)), primeTileId, if_pos (.inr h), mapPpu_of_fixed hTransfer]
  exact if_neg (by omega)

/-- `q` has the sprite count, sprite-zero-possible and the overflow flag of `p`. -/
structure Ppu.SpritesAs (p q : Ppu) : Prop where
  count : q.sprCount = p.sprCount
  possible : q.spr0Possible = p.spr0Possible
  overflow : q.spriteOverflow = p.spriteOverflow

section
variable {s : State}

theorem ppuClock_sprites_of_line (h : s.ppu.renderLine = true) : s.linePpu.SpritesAs (ppuClock s).ppu :=
  ppuClock_of_drawn (fun _ _ _ _ _ _ _ h => { h with })
    (drawn_of_line (P := s.linePpu.SpritesAs) (fun _ _ h => { h with }) h ⟨rfl, rfl, rfl⟩)

theorem ppuClock_slots_of_line (h : s.ppu.renderLine = true) :
    (ppuClock s).ppu.slots =
      if s.linePpu.cycle = 340 then (fetchSlots s.linePpu.sprCount s.linePpu.slots (lineSteps s)).1
      else s.linePpu.slots := by
  have hSlots : (renderSteps s).ppu.slots = if s.linePpu.cycle = 340 then
      (fetchSlots s.linePpu.sprCount s.linePpu.slots (lineSteps s)).1 else s.linePpu.slots := by
    rw [renderSteps_eq, fetchSpritePatterns_ppu, lineSteps_ppu]
  rw [← hSlots]
  refine ppuClock_of_drawn (P := fun q => q.slots = (renderSteps s).ppu.slots) (fun _ _ _ _ _ _ _ h => h) ?_
  rw [drawn, if_pos h, mapPpu_ppu, setVBlank]
  split <;> rfl

theorem ppuClock_sprites_of_not_line (h : s.ppu.renderLine = false) :
    s.ppu.SpritesAs (ppuClock s).ppu ∧ (ppuClock s).ppu.slots = s.ppu.slots := by
  refine ppuClock_of_drawn (P := fun q => s.ppu.SpritesAs q ∧ q.slots = s.ppu.slots)
    (fun _ _ _ _ _ _ _ h => ⟨{ h.1 with }, h.2⟩) ?_
  rw [drawn_ppu_of_not_line h, setVBlank]
  split <;> exact ⟨⟨rfl, rfl, rfl⟩, rfl⟩

/-- Where the compositor does not act its two flags are left as the line's steps leave them. -/
theorem ppuClock_flags_of_not_visible (hLine : s.ppu.renderLine = true) (hVisible : s.ppu.scanline < 0) :
    (ppuClock s).ppu.spriteZeroHit = s.linePpu.spriteZeroHit ∧
      (ppuClock s).ppu.spr0Rendering = s.linePpu.spr0Rendering := by
  have hScanline : (drawn s).ppu.scanline = s.ppu.scanline := (drawn_place s).scanline
  have hCompose : composePixel (drawn s) = drawn s := by
    refine if_neg fun h => ?_
    have := (of_decide_eq_true h.1).1
    omega
  have hAdvance : ∀ p : Ppu, (advance p).spriteZeroHit = p.spriteZeroHit ∧ (advance p).spr0Rendering = p.spr0Rendering := by
    intro p
    unfold advance
    split_ifs <;> exact ⟨rfl, rfl⟩
  rw [ppuClock_ppu, hCompose, (hAdvance _).1, (hAdvance _).2]
  exact drawn_of_line (P := fun q => q.spriteZeroHit = s.linePpu.spriteZeroHit ∧ q.spr0Rendering = s.linePpu.spr0Rendering)
    (fun _ _ h => h) hLine ⟨rfl, rfl⟩

/-- The shift acts in the same cycles whether a frame skips or not. -/
theorem afterSkip_shiftedSlots (p : Ppu) : p.afterSkip.shiftedSlots = p.shiftedSlots := by
  have hCycle := afterSkip_cycle_cases p
  have hIff : (2 ≤ p.afterSkip.cycle ∧ p.afterSkip.cycle ≤ 257) ↔ (2 ≤ p.cycle ∧ p.cycle ≤ 257) := by omega
  exact if_congr (and_congr_right fun _ => hIff) rfl rfl

/-- Where the line's steps neither clear nor evaluate, the slots are shifted or given their patterns, or kept. -/
theorem ppuClock_slots_else (hLine : s.ppu.renderLine = true) (hClears : ¬(s.ppu.scanline = -1 ∧ s.ppu.cycle = 1))
    (hEvaluates : ¬(0 ≤ s.ppu.scanline ∧ s.ppu.cycle = 257)) :
    (ppuClock s).ppu.slots =
      if s.ppu.cycle = 340 then (fetchSlots s.ppu.sprCount s.ppu.slots (fetchTileId s)).1 else s.ppu.shiftedSlots := by
  rw [ppuClock_slots_of_line hLine, linePpu_else hClears hEvaluates]
  have hCycle := afterSkip_cycle_cases s.ppu
  by_cases h : s.ppu.cycle = 340
  · have hSlots : s.ppu.shiftedSlots = s.ppu.slots := if_neg (by omega)
    rw [lineSteps_at_fetch h, afterSkip_of_cycle (by omega), if_pos h]
    refine (if_pos h).trans ?_
    exact congrArg (fun l => (fetchSlots s.ppu.sprCount l (fetchTileId s)).1) hSlots
  · rw [if_neg h, ← afterSkip_shiftedSlots]
    refine if_neg ?_
    have hWork : s.ppu.afterSkip.cycle ≠ 340 := by omega
    exact hWork

/-- The clearing of the pre-render scanline. -/
theorem ppuClock_of_clears (hPre : s.ppu.scanline = -1) (hCycle : s.ppu.cycle = 1) :
    (ppuClock s).ppu.sprCount = 0 ∧ (ppuClock s).ppu.spr0Possible = false ∧ (ppuClock s).ppu.spr0Rendering = false ∧
      (ppuClock s).ppu.spriteOverflow = false ∧ (ppuClock s).ppu.spriteZeroHit = false ∧
      (ppuClock s).ppu.slots = s.ppu.slots.map clearShifters := by
  have hLine : s.ppu.renderLine = true := (renderLine_iff s.ppu).mpr (by omega)
  obtain ⟨hCount, hPossible, hOverflow⟩ := ppuClock_sprites_of_line hLine
  obtain ⟨hHit, hZero⟩ := ppuClock_flags_of_not_visible hLine (by omega)
  have hSlots := ppuClock_slots_of_line hLine
  rw [linePpu_of_clears hPre hCycle] at hCount hPossible hOverflow hHit hZero hSlots
  refine ⟨hCount, hPossible, hZero, hOverflow, hHit, hSlots.trans ?_⟩
  have hFetch : s.ppu.cycle ≠ 340 := by omega
  have hShift : ¬(s.ppu.renderSprites = true ∧ 2 ≤ s.ppu.cycle ∧ s.ppu.cycle ≤ 257) := by omega
  exact (if_neg hFetch).trans (if_neg hShift)

/-- The evaluation of a visible scanline, whose result no other step changes. -/
theorem ppuClock_of_evaluates (hLow : 0 ≤ s.ppu.scanline) (hHigh : s.ppu.scanline ≤ 239) (hCycle : s.ppu.cycle = 257) :
    (evaluateSprites s.params.spriteEvalOffset s.ppu).SpritesAs (ppuClock s).ppu ∧
      (ppuClock s).ppu.slots = (evaluateSprites s.params.spriteEvalOffset s.ppu).slots := by
  have hLine : s.ppu.renderLine = true := (renderLine_iff s.ppu).mpr (by omega)
  have hSprites := ppuClock_sprites_of_line hLine
  have hSlots := ppuClock_slots_of_line hLine
  rw [linePpu_of_evaluates hLow hCycle] at hSprites hSlots
  have hFetch : s.ppu.cycle ≠ 340 := by omega
  exact ⟨⟨hSprites.count, hSprites.possible, hSprites.overflow⟩, hSlots.trans (if_neg hFetch)⟩

theorem ppuClock_sprites_else (hClears : ¬(s.ppu.scanline = -1 ∧ s.ppu.cycle = 1))
    (hEvaluates : ¬(0 ≤ s.ppu.scanline ∧ s.ppu.scanline ≤ 239 ∧ s.ppu.cycle = 257)) :
    s.ppu.SpritesAs (ppuClock s).ppu := by
  by_cases hLine : s.ppu.renderLine = true
  · have hBounds := (renderLine_iff s.ppu).mp hLine
    have hSprites := ppuClock_sprites_of_line hLine
    rw [linePpu_else hClears (by omega)] at hSprites
    exact ⟨hSprites.count, hSprites.possible, hSprites.overflow⟩
  · exact (ppuClock_sprites_of_not_line (Bool.eq_false_iff.mpr hLine)).1

/-- A slot of those fetched, from the reads that `s` would return. -/
theorem getElem?_fetchSlots_of_lt (hPure : ∀ a : Word, (ppuRead a s).2 = s) {n k : Nat} (hk : k < n) {l : List Slot} {sl : Slot}
    (hSlot : l[k]? = some sl) :
    let a := spriteRowAddr s.ppu sl (spriteDiff s.params.spriteEvalOffset s.ppu sl.y)
    (fetchSlots n l (fetchTileId s)).1[k]? =
      some { sl with lo := flipX sl (s.ppuByte a), hi := flipX sl (s.ppuByte (a + 8)) } := by
  intro a
  have hReads : s.ppu.ReadsAs { s.ppu with bgNextId := s.ppuByte (tileIdAddr s.ppu.v) } := ⟨rfl, rfl, rfl, rfl, rfl, rfl⟩
  have hTile : fetchTileId s = s.setPpu { s.ppu with bgNextId := s.ppuByte (tileIdAddr s.ppu.v) } := by
    rw [fetchTileId, hPure]
    rfl
  rw [hTile, fetchSlots_eq_onFirst (fun b => by rw [ppuRead_setPpu hReads, hPure]), getElem?_onFirst, hSlot,
    Option.map_some, if_pos hk, fetchSlot_eq fun b => by rw [ppuRead_setPpu hReads, hPure]]
  rw [ppuByte_setPpu hReads]
  rfl

/-- The cycles in which the shifts move the slots. -/
theorem ppuClock_slots_of_shifts (hLine : s.ppu.renderLine = true) (hLow : 2 ≤ s.ppu.cycle) (hHigh : s.ppu.cycle ≤ 257)
    (hEvaluates : ¬(0 ≤ s.ppu.scanline ∧ s.ppu.cycle = 257)) (hShown : s.ppu.mask.getLsbD 4 = true) :
    (ppuClock s).ppu.slots = onFirst s.ppu.sprCount shiftSlot s.ppu.slots := by
  rw [ppuClock_slots_else hLine (by omega) hEvaluates, if_neg (by omega)]
  exact if_pos ⟨hShown, hLow, hHigh⟩

theorem ppuClock_slots_of_fetches (hLine : s.ppu.renderLine = true) (hCycle : s.ppu.cycle = 340) :
    (ppuClock s).ppu.slots = (fetchSlots s.ppu.sprCount s.ppu.slots (fetchTileId s)).1 := by
  rw [ppuClock_slots_else hLine (by omega) (by omega), if_pos hCycle]

theorem ppuClock_slots_of_idle (hClears : ¬(s.ppu.scanline = -1 ∧ s.ppu.cycle = 1))
    (hEvaluates : ¬(0 ≤ s.ppu.scanline ∧ s.ppu.scanline ≤ 239 ∧ s.ppu.cycle = 257))
    (hShifts : ¬(s.ppu.renderLine = true ∧ s.ppu.mask.getLsbD 4 = true ∧ 2 ≤ s.ppu.cycle ∧ s.ppu.cycle ≤ 257))
    (hFetches : ¬(s.ppu.renderLine = true ∧ s.ppu.cycle = 340)) : (ppuClock s).ppu.slots = s.ppu.slots := by
  by_cases hLine : s.ppu.renderLine = true
  · have hBounds := (renderLine_iff s.ppu).mp hLine
    rw [ppuClock_slots_else hLine hClears (by omega), if_neg fun h => hFetches ⟨hLine, h⟩]
    exact if_neg fun h => hShifts ⟨hLine, h⟩
  · exact (ppuClock_sprites_of_not_line (Bool.eq_false_iff.mpr hLine)).2

/-- The pattern bytes of a slot whose row lies in the sprite (R442, R444). -/
theorem fetchedSlot (hLine : s.ppu.renderLine = true) (hCycle : s.ppu.cycle = 340)
    (hPure : ∀ a : Word, (ppuRead a s).2 = s) {k : Nat} (hk : k < s.ppu.sprCount) {sl : Slot} (hSlot : s.ppu.slots[k]? = some sl)
    {row : Nat} (hRow : (row : Int) = s.ppu.scanline + s.params.spriteEvalOffset - sl.y.toNat)
    (hIn : row < if s.ppu.ctrl.getLsbD 5 = true then 16 else 8) :
    let a := spriteRowPlace (s.ppu.ctrl.getLsbD 5) (s.ppu.ctrl.getLsbD 3) sl.id.toNat (sl.attr.getLsbD 7) row
    (ppuClock s).ppu.slots[k]? = some { sl with lo := flipX sl (s.ppuByte (BitVec.ofNat 16 a))
                                                hi := flipX sl (s.ppuByte (BitVec.ofNat 16 (a + 8))) } := by
  intro a
  have hDiff : spriteDiff s.params.spriteEvalOffset s.ppu sl.y = (row : Int) := hRow.symm
  have hAddr : spriteRowAddr s.ppu sl (spriteDiff s.params.spriteEvalOffset s.ppu sl.y) = BitVec.ofNat 16 a := by
    rw [hDiff, spriteRowAddr_eq s.ppu sl hIn]
  rw [ppuClock_slots_of_fetches hLine hCycle, getElem?_fetchSlots_of_lt hPure hk hSlot, hAddr, BitVec.ofNat_add]
  rfl

end

end Sys2Proof.Machine
end

section
/-! PROOFS. The sprite pipeline. -/
open Sys2Proof Sys2Proof.Machine

/-- Settles O47: the cases of a call are the clearing, the evaluation, the shift, the pattern fetch and the rest. -/
theorem spritePipelineShiftsAndFetches : Obligations.SpritePipelineShiftsAndFetches := by
  intro s p q line clears evaluates shifts fetches
  have hRender : line → p.renderLine = true := (renderLine_iff p).mpr
  have hShifted : shifts → q.slots = onFirst p.sprCount shiftSlot p.slots := fun ⟨hl, h2, h257, he, hm⟩ =>
    ppuClock_slots_of_shifts (hRender hl) h2 h257 (fun h => he ⟨h.1, hl.2, h.2⟩) hm
  have hFetched : fetches → q.slots = (fetchSlots p.sprCount p.slots (fetchTileId s)).1 := fun ⟨hl, hc⟩ =>
    ppuClock_slots_of_fetches (hRender hl) hc
  have hCleared : clears → q.slots = p.slots.map clearShifters := by
    rintro ⟨hPre, hCycle⟩
    obtain ⟨-, -, -, -, -, hSlots⟩ := ppuClock_of_clears hPre hCycle
    exact hSlots
  have hKept : ¬clears → ¬evaluates → ¬shifts → ¬fetches → q.slots = p.slots := fun hc he hs hf =>
    ppuClock_slots_of_idle hc he
      (fun ⟨hl, hm, h2, h257⟩ => hs ⟨(renderLine_iff p).mp hl, h2, h257, he, hm⟩)
      (fun ⟨hl, h340⟩ => hf ⟨(renderLine_iff p).mp hl, h340⟩)
  refine ⟨?_, ?_, ?_, hKept, ?_, ?_⟩
  · intro hClears hEvaluates
    obtain ⟨hCount, hPossible, hOverflow⟩ := ppuClock_sprites_else hClears hEvaluates
    exact ⟨hCount, hPossible, hOverflow⟩
  · rintro ⟨hPre, hCycle⟩
    exact ppuClock_of_clears hPre hCycle
  · rintro ⟨hLow, hHigh, hCycle⟩
    obtain ⟨⟨hCount, hPossible, hOverflow⟩, hSlots⟩ := ppuClock_of_evaluates hLow hHigh hCycle
    exact ⟨hCount, hPossible, hOverflow, hSlots⟩
  · by_cases hEvaluates : evaluates
    · exact .inr hEvaluates
    left
    by_cases hClears : clears
    · rw [hCleared hClears, List.length_map]
    by_cases hShifts : shifts
    · rw [hShifted hShifts, length_onFirst]
    by_cases hFetches : fetches
    · rw [hFetched hFetches, length_fetchSlots]
    · rw [hKept hClears hEvaluates hShifts hFetches]
  · intro k sl hSlot
    refine ⟨?_, ?_, ?_⟩
    · rintro (h | h) hk
      · rw [hShifted h, getElem?_onFirst, hSlot, Option.map_some, if_neg (by omega)]
      · rw [hFetched h, getElem?_fetchSlots_of_le hk, hSlot]
    · intro h hk
      rw [hShifted h, getElem?_onFirst, hSlot, Option.map_some, if_pos hk, shiftSlot_eq]
    · rintro ⟨hl, hCycle⟩ hk hPure row hRow hIn a
      refine ⟨_, _, fetchedSlot (hRender hl) hCycle hPure hk hSlot hRow hIn, ?_⟩
      intro j hj
      exact ⟨getLsbD_flipX sl _ hj, getLsbD_flipX sl _ hj⟩
end

section
/-! SUPPORT. The compositor: the pixels of the two layers, the scan of the slots, what composing writes, and what the
clock hands to it (`50_ppu.md` R450 to R455). -/
namespace Sys2Proof.Machine

-- The pixels of the two layers

theorem bitPair_toNat : ∀ a b : Bool, (BitVec.ofBool a ++ BitVec.ofBool b).toNat = 2 * a.toNat + b.toNat := by decide

/-- A slot shows an opaque pixel: its delay is over and its leftmost pixel is not zero (R451). -/
def Slot.Shows (sl : Slot) : Prop := sl.x = 0 ∧ sl.pixel ≠ 0

theorem Slot.shows_iff (sl : Slot) : sl.Shows ↔ sl.x = 0 ∧ (sl.hi.getLsbD 7 = true ∨ sl.lo.getLsbD 7 = true) := by
  have hOpaque : ∀ a b : Bool, (BitVec.ofBool a ++ BitVec.ofBool b : BitVec 2) ≠ 0 ↔ a = true ∨ b = true := by decide
  exact and_congr_right fun _ => hOpaque _ _

/-- The pixel a slot shows (R451). -/
def Slot.fg (first : Bool) (sl : Slot) : FgPixel :=
  { pixel := sl.pixel, palette := sl.attr.extractLsb' 0 2, front := !sl.attr.getLsbD 5, first := first }

/-- The scan finds nothing where no slot shows a pixel (R451). -/
theorem scanSlots_eq_none {first : Bool} {n : Nat} {l : List Slot}
    (h : ∀ k sl, k < n → l[k]? = some sl → ¬sl.Shows) : scanSlots first n l = none := by
  induction l generalizing n first with
  | nil => cases n <;> rfl
  | cons x l ih =>
    cases n with
    | zero => rfl
    | succ n =>
      have hFirst : ¬x.Shows := h 0 x (Nat.succ_pos n) rfl
      exact (if_neg hFirst).trans (ih fun k sl hk hSlot => h (k + 1) sl (Nat.succ_lt_succ hk) hSlot)

/-- The scan finds the first slot that shows a pixel (R451). -/
theorem scanSlots_eq_some {first : Bool} {n k : Nat} {l : List Slot} {sl : Slot} (hk : k < n) (hSlot : l[k]? = some sl)
    (hShows : sl.Shows) (h : ∀ j sl', j < k → l[j]? = some sl' → ¬sl'.Shows) :
    scanSlots first n l = some (sl.fg (first && decide (k = 0))) := by
  induction l generalizing n k first with
  | nil => cases hSlot
  | cons x l ih =>
    obtain ⟨n, rfl⟩ : ∃ m, n = m + 1 := ⟨n - 1, by omega⟩
    cases k with
    | zero =>
      cases hSlot
      rw [decide_eq_true rfl, Bool.and_true]
      exact if_pos hShows
    | succ k =>
      have hFirst : ¬x.Shows := h 0 x (Nat.succ_pos k) rfl
      have hRest := ih (first := false) (Nat.lt_of_succ_lt_succ hk) hSlot
        fun j sl' hj hOther => h (j + 1) sl' (Nat.succ_lt_succ hj) hOther
      rw [decide_eq_false (Nat.succ_ne_zero k), Bool.and_false]
      exact (if_neg hFirst).trans hRest

theorem spritesShown_iff (p : Ppu) :
    p.spritesShown = true ↔ p.mask.getLsbD 4 = true ∧ (p.mask.getLsbD 2 = true ∨ 9 ≤ p.cycle) := by
  simp [Ppu.spritesShown, Ppu.renderSprites, Ppu.renderSpritesLeft]

-- The resolved pixel

/-- A palette entry of a sprite or of the background, in numbers (R452, R454). -/
theorem paletteEntry_toNat : ∀ palette pixel : BitVec 2,
    (1#4 ++ palette ++ pixel : Byte).toNat = 4 * (4 + palette.toNat) + pixel.toNat ∧
      (0#4 ++ palette ++ pixel : Byte).toNat = 4 * palette.toNat + pixel.toNat := by decide

theorem resolvePixel_lt (bg : BitVec 2 × BitVec 2) (fg : Option FgPixel) : (resolvePixel bg fg).toNat < 0x20 := by
  have hBg := (paletteEntry_toNat bg.2 bg.1).2
  unfold resolvePixel
  cases fg with
  | none =>
    dsimp only
    split
    · decide
    · omega
  | some f =>
    have hFg := (paletteEntry_toNat f.palette f.pixel).1
    dsimp only
    split <;> omega

-- What composing writes

/-- The compositor acts in cycles 1 to 256 of the visible scanlines (decision D54). -/
def Ppu.DrawsPixel (p : Ppu) : Prop := (0 ≤ p.scanline ∧ p.scanline ≤ 239) ∧ 1 ≤ p.cycle ∧ p.cycle ≤ 256

/-- The two flags after composing (R451, R453). -/
def Ppu.composed (p : Ppu) : Ppu :=
  { p with spr0Rendering := p.scanZero, spriteZeroHit := p.spriteZeroHit || p.zeroHit }

/-- The emitted pixel (R454, R455). -/
def Ppu.emitted (p : Ppu) : Pixel :=
  { x := p.cycle - 1, y := p.scanline.toNat
    colour := (p.palRead (0x3F00 + (resolvePixel p.bgPixel p.fgPixel).toNat)).extractLsb' 0 6 }

/-- The address of a palette entry as a sum. -/
theorem paletteAddr_eq (r : Byte) : 0x3F00 + zext16 r = BitVec.ofNat 16 (0x3F00 + r.toNat) := by
  have hZext : zext16 r = BitVec.ofNat 16 r.toNat :=
    BitVec.eq_of_toNat_eq (by rw [BitVec.toNat_ofNat]; exact BitVec.toNat_setWidth 16 r)
  rw [hZext, BitVec.ofNat_add]
  rfl

/-- A read of the palette at an entry below 32 is one of the PPU's own memory. -/
theorem ppuRead_paletteEntry {n : Nat} (h : n < 0x20) (s : State) :
    ppuRead (BitVec.ofNat 16 (0x3F00 + n)) s = (s.ppu.palRead (0x3F00 + n), s) := by
  have hAddr : (BitVec.ofNat 16 (0x3F00 + n)).toNat % 0x4000 = 0x3F00 + n := by
    rw [BitVec.toNat_ofNat]
    omega
  simp only [ppuRead, hAddr, cartPpuRead_upper s (by omega : 0x2000 ≤ 0x3F00 + n)]
  rw [if_neg (by omega), if_neg (by omega)]

theorem composePixel_of_draws {s : State} (h : s.ppu.DrawsPixel) :
    composePixel s = { s with ppu := s.ppu.composed
                              sink := if s.renderEnable = true then some s.ppu.emitted else s.sink } := by
  have hActs : s.ppu.visibleLine = true ∧ 1 ≤ s.ppu.cycle ∧ s.ppu.cycle ≤ 256 := ⟨decide_eq_true h.1, h.2⟩
  rw [composePixel, if_pos hActs]
  dsimp only
  rw [paletteAddr_eq, ppuRead_paletteEntry (resolvePixel_lt _ _)]
  by_cases hEnable : s.renderEnable = true
  · rw [if_pos hEnable, if_pos hEnable]
    rfl
  · rw [if_neg hEnable, if_neg hEnable]
    rfl

theorem composePixel_of_not_draws {s : State} (h : ¬s.ppu.DrawsPixel) : composePixel s = s :=
  if_neg fun hActs => h ⟨of_decide_eq_true hActs.1, hActs.2⟩

-- What the clock hands to the compositor

theorem mapPpu_sink (f : Ppu → Ppu) (s : State) : (s.mapPpu f).sink = s.sink := rfl

theorem ppuRead_sink (a : Word) (s : State) : (ppuRead a s).2.sink = s.sink := by rw [ppuRead_state]

theorem fetchTileId_sink (s : State) : (fetchTileId s).sink = s.sink := ppuRead_sink _ s

theorem fetchPhase_sink (k : Nat) (s : State) : (fetchPhase k s).sink = s.sink := by
  unfold fetchPhase
  split
  case h_1 => rw [fetchTileId_sink, mapPpu_sink]
  case h_5 => rfl
  case h_6 => rfl
  all_goals exact ppuRead_sink _ s

theorem pipelineStep_sink (s : State) : (pipelineStep s).sink = s.sink := by
  unfold pipelineStep
  split
  · rw [fetchPhase_sink, mapPpu_sink, mapPpu_sink]
  · rfl

theorem primeTileId_sink (s : State) : (primeTileId s).sink = s.sink := by
  unfold primeTileId
  split
  · exact fetchTileId_sink s
  · rfl

theorem evaluateAt257_sink (s : State) : (evaluateAt257 s).sink = s.sink := by
  unfold evaluateAt257
  split <;> rfl

theorem fetchSlots_sink (n : Nat) (l : List Slot) (s : State) : (fetchSlots n l s).2.sink = s.sink := by
  induction l generalizing n s with
  | nil => cases n <;> rfl
  | cons x l ih =>
    cases n with
    | zero => rfl
    | succ n =>
      have hSlot : (fetchSlot x s).2.sink = s.sink := (ppuRead_sink _ _).trans (ppuRead_sink _ _)
      exact (ih n _).trans hSlot

theorem fetchSpritePatterns_sink (s : State) : (fetchSpritePatterns s).sink = s.sink := by
  unfold fetchSpritePatterns
  split
  · exact fetchSlots_sink _ _ s
  · rfl

theorem renderSteps_sink (s : State) : (renderSteps s).sink = s.sink := by
  simp only [renderSteps, fetchSpritePatterns_sink, evaluateAt257_sink, primeTileId_sink, pipelineStep_sink, mapPpu_sink]

theorem drawn_sink (s : State) : (drawn s).sink = s.sink := by
  rw [drawn, mapPpu_sink]
  split
  · exact renderSteps_sink s
  · rfl

theorem drawn_renderEnable (s : State) : (drawn s).renderEnable = s.renderEnable := by
  rw [(drawn_work s).frame]

/-- The two flags of the compositor hold `hit` and `zero`. -/
def Ppu.ComposeFlagsAre (hit zero : Bool) (p : Ppu) : Prop := p.spriteZeroHit = hit ∧ p.spr0Rendering = zero

theorem evaluated_composeFlags {p : Ppu} {hit zero : Bool} (h : p.ComposeFlagsAre hit zero) (offset : Nat) :
    (p.evaluated offset).ComposeFlagsAre hit zero := by
  unfold Ppu.evaluated
  split <;> exact h

/-- The compositor finds its flags as the call found them, or cleared (R423, decision D47). -/
theorem drawn_composeFlags (s : State) :
    (drawn s).ppu.ComposeFlagsAre
      (if s.ppu.scanline = -1 ∧ s.ppu.cycle = 1 then false else s.ppu.spriteZeroHit)
      (if s.ppu.scanline = -1 ∧ s.ppu.cycle = 1 then false else s.ppu.spr0Rendering) := by
  cases hLine : s.ppu.renderLine with
  | true =>
    refine drawn_of_line (fun _ _ h => h) hLine (evaluated_composeFlags ?_ _)
    split
    case isTrue h =>
      rw [preRenderClear_clears h.1 h.2]
      exact ⟨rfl, rfl⟩
    case isFalse h =>
      rw [preRenderClear_keeps h]
      exact ⟨rfl, rfl⟩
  | false =>
    have hClears : ¬(s.ppu.scanline = -1 ∧ s.ppu.cycle = 1) := fun h =>
      Bool.false_ne_true (hLine.symm.trans ((renderLine_iff s.ppu).mpr (by omega)))
    rw [if_neg hClears, if_neg hClears, drawn_ppu_of_not_line hLine, setVBlank]
    split <;> exact ⟨rfl, rfl⟩

/-- With the position and the compositor's flags put back, the PPU after a call is the one the compositor found, but for
the end of the frame. -/
theorem ppuClock_eq_drawn_of_flags (s : State) : ∃ frame odd : Bool,
    { (ppuClock s).ppu with
      scanline := s.ppu.scanline, cycle := if s.ppu.skips = true then 1 else s.ppu.cycle
      spriteZeroHit := if s.ppu.scanline = -1 ∧ s.ppu.cycle = 1 then false else s.ppu.spriteZeroHit
      spr0Rendering := if s.ppu.scanline = -1 ∧ s.ppu.cycle = 1 then false else s.ppu.spr0Rendering } =
    { (drawn s).ppu with frameComplete := frame, oddFrame := odd } := by
  obtain ⟨hScanline, hCycle, -, -⟩ := drawn_place s
  obtain ⟨hHit, hZero⟩ := drawn_composeFlags s
  have hClock : ∃ hit zero c l f o, (ppuClock s).ppu =
      { (drawn s).ppu with spriteZeroHit := hit, spr0Rendering := zero, cycle := c, scanline := l
                           frameComplete := f, oddFrame := o } :=
    ppuClock_of_drawn (P := fun q => ∃ hit zero c l f o, q =
      { (drawn s).ppu with spriteZeroHit := hit, spr0Rendering := zero, cycle := c, scanline := l
                           frameComplete := f, oddFrame := o })
      (fun q hit zero c l f o ⟨_, _, _, _, _, _, h⟩ => ⟨hit, zero, c, l, f, o, by rw [h]⟩)
      ⟨_, _, _, _, _, _, rfl⟩
  obtain ⟨hit, zero, c, l, f, o, h⟩ := hClock
  refine ⟨f, o, ?_⟩
  rw [h, ← hHit, ← hZero, ← show (drawn s).ppu.scanline = s.ppu.scanline from hScanline]
  rw [← show (drawn s).ppu.cycle = if s.ppu.skips = true then 1 else s.ppu.cycle from hCycle]

/-- What composing writes depends on the PPU but for the end of the frame, on the host's switch and on the sink. -/
theorem composePixel_congr {s u : State} {frame odd : Bool}
    (hPpu : u.ppu = { s.ppu with frameComplete := frame, oddFrame := odd }) (hEnable : u.renderEnable = s.renderEnable)
    (hSink : u.sink = s.sink) :
    (composePixel s).sink = (composePixel u).sink ∧
      (composePixel s).ppu.spriteZeroHit = (composePixel u).ppu.spriteZeroHit ∧
      (composePixel s).ppu.spr0Rendering = (composePixel u).ppu.spr0Rendering := by
  have hDraws : u.ppu.DrawsPixel ↔ s.ppu.DrawsPixel := by
    rw [hPpu]
    exact Iff.rfl
  by_cases h : s.ppu.DrawsPixel
  · rw [composePixel_of_draws h, composePixel_of_draws (hDraws.mpr h), hPpu, hEnable, hSink]
    exact ⟨rfl, rfl, rfl⟩
  · rw [composePixel_of_not_draws h, composePixel_of_not_draws fun hu => h (hDraws.mp hu), hPpu, hSink]
    exact ⟨rfl, rfl, rfl⟩

theorem advance_composeFlags (p : Ppu) : (advance p).ComposeFlagsAre p.spriteZeroHit p.spr0Rendering := by
  unfold advance
  split_ifs <;> exact ⟨rfl, rfl⟩

theorem mapperTick_sink (s : State) : (mapperTick s).sink = s.sink := by
  rcases mapperTick_cases s with h | h <;> rw [h]
  rfl

/-- After composing the clock touches neither the sink nor the compositor's flags. -/
theorem ppuClock_of_composed (s : State) :
    (ppuClock s).sink = (composePixel (drawn s)).sink ∧
      (ppuClock s).ppu.ComposeFlagsAre (composePixel (drawn s)).ppu.spriteZeroHit
        (composePixel (drawn s)).ppu.spr0Rendering := by
  refine ⟨mapperTick_sink _, ?_⟩
  rw [ppuClock_ppu]
  exact advance_composeFlags _

end Sys2Proof.Machine
end

section
/-! PROOFS. The compositor. -/
open Sys2Proof Sys2Proof.Machine

/-- Settles O56: the layers' pixels, the palette entries, what composing writes, and that the clock composes from what
its other steps leave. -/
theorem compositorFollowsThePriorityTable : Obligations.CompositorFollowsThePriorityTable := by
  refine ⟨?_, ?_, ?_, ?_, ?_⟩
  · intro p b shown
    refine ⟨fun h => if_neg h, fun h => ?_⟩
    have hPixel : p.bgPixel = (BitVec.ofBool (p.bgPatHi.getLsbD b) ++ BitVec.ofBool (p.bgPatLo.getLsbD b),
        BitVec.ofBool (p.bgAttHi.getLsbD b) ++ BitVec.ofBool (p.bgAttLo.getLsbD b)) := if_pos h
    rw [hPixel]
    exact ⟨bitPair_toNat _ _, bitPair_toNat _ _⟩
  · intro p shown opaqueAt
    have hShown : p.spritesShown = true ↔ shown := spritesShown_iff p
    have hFg : shown → p.fgPixel = scanSlots true p.sprCount p.slots := fun h => if_pos (hShown.mpr h)
    have hOpaque : ∀ k sl, k < p.sprCount → p.slots[k]? = some sl → ¬opaqueAt k sl → ¬sl.Shows :=
      fun k sl hk hSlot hNot hShows => hNot ⟨hk, hSlot, sl.shows_iff.mp hShows⟩
    refine ⟨fun h => if_neg (mt hShown.mp h), fun h hNone => ?_, fun k sl h hAt hFirst => ?_⟩
    · rw [hFg h]
      exact scanSlots_eq_none fun k sl hk hSlot => hOpaque k sl hk hSlot (hNone k sl)
    · obtain ⟨hk, hSlot, hShows⟩ := hAt
      refine ⟨_, (hFg h).trans (scanSlots_eq_some hk hSlot (sl.shows_iff.mpr hShows) ?_), bitPair_toNat _ _, ?_, rfl, ?_⟩
      · exact fun j sl' hj hOther => hOpaque j sl' (hj.trans hk) hOther (hFirst j sl' hj)
      · exact BitVec.extractLsb'_toNat ..
      · exact Bool.true_and _
  · intro pixel palette f
    obtain ⟨hFront, -⟩ := paletteEntry_toNat f.palette f.pixel
    obtain ⟨-, hBack⟩ := paletteEntry_toNat palette pixel
    refine ⟨rfl, hFront, fun h => ?_⟩
    constructor
    · rw [resolvePixel, if_neg h, hBack]
    · by_cases hPriority : f.front = true
      · rw [resolvePixel, if_pos (.inr hPriority), if_pos hPriority, hFront]
      · rw [resolvePixel, if_neg (not_or.mpr ⟨h, hPriority⟩), if_neg hPriority, hBack]
  · intro s t visible spritesShown
    have hShown : s.ppu.spritesShown = true ↔ spritesShown := spritesShown_iff s.ppu
    refine ⟨fun h => composePixel_of_not_draws h, fun h => ?_⟩
    have hCompose : t = _ := composePixel_of_draws h
    rw [hCompose]
    refine ⟨rfl, fun hs => if_neg (mt hShown.mp hs), fun hs => if_pos (hShown.mpr hs), ?_, fun he => ?_, fun he => ?_⟩
    · simp [Ppu.composed, Ppu.zeroHit, Ppu.renderBackground, Ppu.renderSprites, and_assoc]
    · exact if_neg (by rw [he]; exact Bool.false_ne_true)
    · refine ⟨_, if_pos he, ?_, ?_, ?_⟩
      · exact Nat.sub_add_cancel h.2.1
      · exact Int.toNat_of_nonneg h.1.1
      · rw [ppuRead_paletteEntry (resolvePixel_lt _ _)]
        exact BitVec.extractLsb'_toNat ..
  · intro s t clears u
    obtain ⟨frame, odd, hPpu⟩ := ppuClock_eq_drawn_of_flags s
    obtain ⟨hSink, hHit, hZero⟩ := ppuClock_of_composed s
    have hEnable : t.renderEnable = s.renderEnable := by
      rw [show t = _ from ppuClock_frame s]
    obtain ⟨hcSink, hcHit, hcZero⟩ := composePixel_congr (u := { t with sink := s.sink, ppu := _ }) hPpu
      (hEnable.trans (drawn_renderEnable s).symm) (drawn_sink s).symm
    exact ⟨hSink.trans hcSink, hHit.trans hcHit, hZero.trans hcZero⟩
end

section
/-! SUPPORT. The entry of a hardware interrupt, who acts in a tick, and what its end delivers (`60_exceptions.md`
R524, R525, R529, `51_bus_clock_dma.md` R481, R485, R492). -/
namespace Sys2Proof.Machine

-- The entry

/-- Of P the entry of a hardware interrupt clears B, sets U and, after the push, sets I. -/
theorem hardwareInterrupt_p (vector : Word) (cost : Byte) (s : State) :
    (hardwareInterrupt vector cost s).cpu.p = putFlag .i true (putFlag .u true (putFlag .b false s.cpu.p)) :=
  takeInterrupt_p _ vector _

theorem FlagsKept.refl (s : State) : FlagsKept [] s s := fun _ _ => rfl

/-- The address transient is no part of an interrupt entry. -/
theorem EntersInterrupt.setAddrAbs {s t : State} {ret vector : Word} {image : Byte}
    (h : EntersInterrupt ret image vector s t) (w : Word) : EntersInterrupt ret image vector s (t.setAddrAbs w) := by
  obtain ⟨hRegs, hI, hFrame, hStores⟩ := h
  exact ⟨hRegs, hI, congrArg (State.setAddrAbs w) hFrame, hStores⟩

/-- `t` is what a hardware interrupt through `vector` at the given cost makes of `s` (R524, R525). -/
def EntersHardware (vector : Word) (cost : Nat) (s t : State) : Prop :=
  EntersInterrupt s.cpu.pc ((s.cpu.p &&& 0xEF) ||| 0x20) vector s t ∧ FlagsKept [.i, .b, .u] s t ∧
    t.flag .b = false ∧ t.flag .u = true ∧ t.cpu.addrAbs = vector ∧ Costs cost t

theorem hardwareInterrupt_enters {vector : Word} (hVector : 0x8000 ≤ vector.toNat)
    (hNext : 0x8000 ≤ (vector + 1).toNat) (cost : Nat) (s : State) :
    EntersHardware vector cost s (hardwareInterrupt vector (BitVec.ofNat 8 cost) s) := by
  let marked := (s.setFlag .b false).setFlag .u true
  have hRegs : RegistersAre marked s.cpu := ⟨rfl, rfl, rfl, rfl, rfl, rfl⟩
  have hImage : marked.cpu.p = (s.cpu.p &&& 0xEF) ||| 0x20 := rfl
  have hEntry := EntersInterrupt.of_takeInterrupt (ret := s.cpu.pc) hRegs rfl marked.cpu.p hVector hNext
  rw [hImage] at hEntry
  have hFlags := ((((FlagsKept.refl s).setFlag .b false).setFlag .u true).takeInterrupt marked.cpu.p vector).mono
    (more := [.i, .b, .u]) (by decide)
  refine ⟨(hEntry.setAddrAbs vector).setCycles _, hFlags, ?_, ?_, rfl, rfl⟩
  · rw [State.flag, hardwareInterrupt_p, getFlag_putFlag_other _ _ (by decide), getFlag_putFlag_other _ _ (by decide),
      getFlag_putFlag_same]
  · rw [State.flag, hardwareInterrupt_p, getFlag_putFlag_other _ _ (by decide), getFlag_putFlag_same]

theorem irq_of_masked {s : State} (h : s.flag .i = true) : irq s = s := if_pos h

theorem irq_of_accepted {s : State} (h : s.flag .i = false) : irq s = hardwareInterrupt irqVector 7 s := by
  rw [irq, h]
  rfl

/-- `nmi()` leaves I set, so that an IRQ right after it is not accepted. -/
theorem nmi_flag_i (s : State) : (nmi s).flag .i = true := by
  rw [State.flag, nmi, hardwareInterrupt_p, getFlag_putFlag_same]

-- Who acts in a tick

theorem slotStep_between {s : State} (hCpu : s.dma.transfer = false) (hOff : s.clock % 3 ≠ 0) (u : State) :
    slotStep s u = .next u := by
  rw [slotStep, hCpu, if_neg Bool.false_ne_true, if_neg hOff]

theorem slotStep_cpu {s : State} (hCpu : s.dma.transfer = false) (hSlot : s.clock % 3 = 0) (u : State) :
    slotStep s u = cpuStep u := by
  rw [slotStep, hCpu, if_neg Bool.false_ne_true, if_pos hSlot]

theorem slotStep_dma {s : State} (hDma : s.dma.transfer = true) (u : State) :
    slotStep s u = .next (if s.clock % s.params.dmaSlotPeriod = 0 then dmaStep u else u) := if_pos hDma

theorem cpuStep_idle {s : State} (h : s.cpu.cycles ≠ 0) : cpuStep s = .next (s.setCycles (s.cpu.cycles - 1)) :=
  if_neg h

/-- A step is the PPU's clock, the CPU or DMA part, and the end of the tick (R481). -/
theorem step_eq (s : State) : step s = thenDo endTick (slotStep s (ppuClock (s.setSink none))) := rfl

/-- In a tick of no CPU slot only the PPU and the end of the tick act. -/
theorem step_between {s : State} (hCpu : s.dma.transfer = false) (hOff : s.clock % 3 ≠ 0) :
    step s = .next (endTick (ppuClock (s.setSink none))) := by
  rw [step_eq, slotStep_between hCpu hOff, thenDo]

/-- In a CPU slot with `cycles` not 0 the counter goes down. -/
theorem step_idle {s : State} (hCpu : s.dma.transfer = false) (hSlot : s.clock % 3 = 0) (hBusy : s.cpu.cycles ≠ 0) :
    step s = .next (endTick ((ppuClock (s.setSink none)).setCycles
      ((ppuClock (s.setSink none)).cpu.cycles - 1))) := by
  have hStill : (ppuClock (s.setSink none)).cpu.cycles ≠ 0 := by rwa [ppuClock_cpu]
  rw [step_eq, slotStep_cpu hCpu hSlot, cpuStep_idle hStill, thenDo]

-- The end of a tick

theorem deliverNmi_none {s : State} (h : s.ppu.nmiPending = false) : deliverNmi s = s := by
  rw [deliverNmi, h]
  rfl

theorem deliverNmi_pending {s : State} (h : s.ppu.nmiPending = true) :
    deliverNmi s = nmi (s.setPpu { s.ppu with nmiPending := false }) := if_pos h

theorem deliverIrq_none {s : State} (h : s.cart.mapper.irqState = false) : deliverIrq s = s := by
  rw [deliverIrq, h]
  rfl

theorem deliverIrq_raised {s : State} (h : s.cart.mapper.irqState = true) :
    deliverIrq s = irq (s.setMapper s.cart.mapper.irqClear) := if_pos h

/-- The end of a tick is the two deliveries, and the clock one further. -/
theorem endTick_eq (s : State) : endTick s = (deliverIrq (deliverNmi s)).setClock (s.clock + 1) := by
  obtain ⟨-, hNmi⟩ := deliverNmi_clears s
  obtain ⟨-, -, hIrq⟩ := deliverIrq_clears (deliverNmi s)
  rw [endTick, hIrq, hNmi]

/-- Without a request the end of a tick raises the clock alone. -/
theorem endTick_none {s : State} (hNmi : s.ppu.nmiPending = false) (hIrq : s.cart.mapper.irqState = false) :
    endTick s = s.setClock (s.clock + 1) := by
  rw [endTick_eq, deliverNmi_none hNmi, deliverIrq_none hIrq]

end Sys2Proof.Machine
end

section
/-! PROOFS. The tick, interrupt delivery and interrupt entry. -/
open Sys2Proof Sys2Proof.Machine

/-- Settles O37: an NMI leaves the cartridge alone, so that the IRQ's request is still there, and sets I, so that the
IRQ is not taken. -/
theorem tickDeliversNmiBeforeIrq : Obligations.TickDeliversNmiBeforeIrq := by
  intro s taken cleared
  have hCart : (nmi taken).cart = s.cart := hardwareInterrupt_cart _ _ taken
  refine ⟨endTick_none, fun hNmi hIrq => ?_, fun hNmi hIrq => ?_, fun hNmi hIrq => ?_⟩
  · rw [endTick_eq, deliverNmi_pending hNmi, deliverIrq_none (by rwa [hCart])]
  · rw [endTick_eq, deliverNmi_none hNmi, deliverIrq_raised hIrq]
  · have hMasked : ((nmi taken).setMapper s.cart.mapper.irqClear).flag .i = true := nmi_flag_i taken
    rw [endTick_eq, deliverNmi_pending hNmi, deliverIrq_raised (by rwa [hCart]), hCart, irq_of_masked hMasked]

/-- Settles O5: the four cases are the branches of the CPU or DMA part of the tick. -/
theorem tickOrderAndClockRatio : Obligations.TickOrderAndClockRatio := by
  refine fun s => ⟨step_between, step_idle, fun hDma hSlot => ?_, fun hDma hOff => ?_⟩
  · rw [step_eq, slotStep_dma hDma, if_pos hSlot]
    rfl
  · rw [step_eq, slotStep_dma hDma, if_neg hOff]
    rfl

/-- Settles O35: both are a hardware interrupt, whose vector is in program memory. -/
theorem interruptEntriesSaveStatusAndPc : Obligations.InterruptEntriesSaveStatusAndPc := by
  refine fun s => ⟨irq_of_masked, fun hAccepted => ?_, hardwareInterrupt_enters (by decide) (by decide) 8 s⟩
  rw [irq_of_accepted hAccepted]
  exact hardwareInterrupt_enters (by decide) (by decide) 7 s

end

section
/-! SUPPORT. What a return makes of the bytes an entry pushed (`44_control_transfer.md` R342, R343, `60_exceptions.md`
R532). -/
namespace Sys2Proof.Machine

theorem word_of_bytes (w : Word) : BitVec.ofNat 16 (256 * (hi8 w).toNat + (lo8 w).toNat) = w := by
  have hBytes : 256 * (hi8 w).toNat + (lo8 w).toNat = w.toNat := by
    rw [hi8_toNat, lo8_toNat]
    omega
  rw [hBytes, BitVec.ofNat_toNat, BitVec.setWidth_eq]

/-- RTI after an interrupt entry restores the registers, PC to the address pushed and P to the image pushed with bit 5
set. -/
theorem exec_rti_of_entersInterrupt {s t : State} (hs : s.inv = true) {ret vector : Word} {image : Byte}
    (h : EntersInterrupt ret image vector s t) :
    ∃ u : State, exec .rti t = .next u ∧ RegistersAre u { s.cpu with pc := ret } ∧ u.cpu.p = image ||| 0x20 := by
  obtain ⟨⟨ha, hx, hy, hsp, -, hop⟩, -, -, hStores⟩ := h
  obtain ⟨hStored, -⟩ := hStores hs
  simp only [List.forall_mem_cons] at hStored
  obtain ⟨hHigh, hLow, hImage, -⟩ := hStored
  obtain ⟨hRti, -⟩ := rtiPullsStatusAndPc
  obtain ⟨u, hExec, ⟨hua, hux, huy, husp, hupc, huop⟩, -, hStatus, -⟩ := hRti t
  -- The places RTI pulls from are those the entry pushed to.
  have hThird : t.cpu.sp + 1 = s.cpu.sp - 2 := by rw [hsp]; bv_omega
  have hSecond : t.cpu.sp + 2 = s.cpu.sp - 1 := by rw [hsp]; bv_omega
  have hFirst : t.cpu.sp + 3 = s.cpu.sp := by rw [hsp]; bv_omega
  rw [hThird, hImage] at hStatus
  rw [hFirst, hSecond, hHigh, hLow, word_of_bytes] at hupc
  exact ⟨u, hExec, ⟨hua.trans ha, hux.trans hx, huy.trans hy, husp.trans hFirst, hupc, huop.trans hop⟩, hStatus⟩

/-- Once the status pulled is the old one with B at `b` and U set, every other flag is restored. -/
theorem flags_of_pulledStatus {s u : State} {b : Bool} (h : u.cpu.p = putFlag .u true (putFlag .b b s.cpu.p)) :
    FlagsKept [.b, .u] s u ∧ u.flag .b = b ∧ u.flag .u = true := by
  have hFlag (f : Flag) : u.flag f = ((s.setFlag .b b).setFlag .u true).flag f := State.flag_congr h f
  have hMarked := (((FlagsKept.refl s).setFlag .b b).setFlag .u true).mono (more := [.b, .u]) (by decide)
  refine ⟨fun f hf => (hFlag f).trans (hMarked f hf), (hFlag .b).trans ?_, (hFlag .u).trans ?_⟩
  · rw [State.flag_setFlag, if_neg (by decide), State.flag_setFlag, if_pos rfl]
  · rw [State.flag_setFlag, if_pos rfl]

/-- RTI after a hardware interrupt restores registers and flags, but that B is then 0 and U 1. -/
theorem exec_rti_of_entersHardware {s t : State} (hs : s.inv = true) {vector : Word} {cost : Nat}
    (h : EntersHardware vector cost s t) :
    ∃ u : State, exec .rti t = .next u ∧ RegistersAre u s.cpu ∧ FlagsKept [.b, .u] s u ∧ u.flag .b = false ∧
      u.flag .u = true := by
  obtain ⟨hEnters, -⟩ := h
  obtain ⟨u, hExec, hRegs, hStatus⟩ := exec_rti_of_entersInterrupt hs hEnters
  refine ⟨u, hExec, hRegs, flags_of_pulledStatus (hStatus.trans ?_)⟩
  rw [BitVec.or_assoc]
  rfl

/-- RTS after a JSR to `w` restores the registers, PC to the byte after the JSR. -/
theorem exec_rts_of_jsr {s : State} (hs : s.inv = true) (w : Word) :
    ∃ t u : State, exec (.jsr (.abs w)) s = .next t ∧ t.cpu.pc = w ∧ exec .rts t = .next u ∧ RegistersAre u s.cpu ∧
      FlagsKept [] s u := by
  obtain ⟨hJsr, hRts, -⟩ := jsrAndRtsUseTheStack
  obtain ⟨t, hCall, ⟨ha, hx, hy, hsp, hpc, hop⟩, hFlags, -, -, hStores, -⟩ := hJsr w s
  obtain ⟨u, hReturn, ⟨hua, hux, huy, husp, hupc, huop⟩, hFlagsBack, -⟩ := hRts t
  obtain ⟨hStored, -⟩ := hStores hs
  simp only [List.forall_mem_cons] at hStored
  obtain ⟨hHigh, hLow, -⟩ := hStored
  have hSecond : t.cpu.sp + 1 = s.cpu.sp - 1 := by rw [hsp]; bv_omega
  have hFirst : t.cpu.sp + 2 = s.cpu.sp := by rw [hsp]; bv_omega
  have hNext : s.cpu.pc - 1 + 1 = s.cpu.pc := BitVec.sub_add_cancel _ _
  rw [hFirst, hSecond, hHigh, hLow, BitVec.ofNat_add, word_of_bytes] at hupc
  exact ⟨t, u, hCall, hpc, hReturn,
    ⟨hua.trans ha, hux.trans hx, huy.trans hy, husp.trans hFirst, hupc.trans hNext, huop.trans hop⟩,
    fun f hf => (hFlagsBack f hf).trans (hFlags f hf)⟩

end Sys2Proof.Machine
end

section
/-! PROOFS. Returns. -/
open Sys2Proof Sys2Proof.Machine

/-- Settles O36: each return pulls, in the opposite order, the bytes its entry pushed. -/
theorem returnsUndoTheirEntries : Obligations.ReturnsUndoTheirEntries := by
  intro s hs
  obtain ⟨hIrq, hNmi⟩ : (s.flag .i = false → EntersHardware 0xFFFE 7 s (irq s)) ∧ EntersHardware 0xFFFA 8 s (nmi s) :=
    (interruptEntriesSaveStatusAndPc s).2
  refine ⟨exec_rts_of_jsr hs, exec_rti_of_entersHardware hs hNmi,
    fun hAccepted => exec_rti_of_entersHardware hs (hIrq hAccepted), ?_⟩
  obtain ⟨hBrk, -⟩ := brkEntersThroughTheIrqVector
  obtain ⟨t, hExec, hEnters, -⟩ := hBrk s
  obtain ⟨u, hReturn, hRegs, hStatus⟩ := exec_rti_of_entersInterrupt hs hEnters
  have hPulled : s.cpu.p ||| 0x30 ||| 0x20 = putFlag .u true (putFlag .b true s.cpu.p) := by
    rw [BitVec.or_assoc]
    exact (BitVec.or_assoc s.cpu.p 0x10 0x20).symm
  exact ⟨t, u, hExec, hReturn, hRegs, flags_of_pulledStatus (hStatus.trans hPulled)⟩

end

section
/-! SUPPORT. The full reset as one update of the state (`70_reset_and_hazards.md` R560, R561). -/
namespace Sys2Proof.Machine

/-- The read of the reset vector, under the mapper's reset banking (D2). -/
def resetVectorRead (s : State) : Word × State := memRead16 resetVector (s.setMapper s.cart.mapper.reset)

/-- Everything a full reset writes: the CPU, the clock, the DMA, the PPU, the mapper, and the count of free values as
reading the vector leaves it. -/
theorem fullReset_eq (s : State) : fullReset s =
    { s with cpu := Cpu.atReset (resetVectorRead s).1, clock := 0, dma := Dma.atReset, ppu := s.ppu.reset,
             cart := { s.cart with mapper := s.cart.mapper.reset }, freeIndex := (resetVectorRead s).2.freeIndex } := by
  have hRead := memRead16_program_congr (s := s.setMapper s.cart.mapper.reset) rfl rfl
    (by decide : 0x8000 ≤ resetVector.toNat) (by decide)
  unfold fullReset cpuReset
  dsimp only
  rw [hRead]
  rfl

theorem Mapper.reset_cram (m : Mapper) : m.reset.cram = m.cram := by cases m <;> rfl

/-- A full reset keeps every byte of memory (R561). -/
theorem fullReset_memoryKept (s : State) : MemoryKept s (fullReset s) := by
  rw [fullReset_eq]
  intro l
  cases l with
  | cram k => exact congrArg (Memory.read · k) (Mapper.reset_cram _)
  | _ => rfl

end Sys2Proof.Machine
end

section
/-! SUPPORT. The wait for the first fetch after a full reset (`70_reset_and_hazards.md` R563): nothing asks for an
interrupt, and the CPU counts its eight idle slots down. -/
namespace Sys2Proof.Machine

/-- No request is raised in the mapper and a scanline raises none: variant 4 has its interrupt off, and no other variant
has one. -/
def Mapper.Silent (m : Mapper) : Prop := ∀ u : TargetMapper, m = .target u → u.irqActive = false ∧ u.irqEnable = false

theorem Mapper.Silent.irqState {m : Mapper} (h : m.Silent) : m.irqState = false := by
  cases m with
  | target u => exact (h u rfl).1
  | _ => rfl

theorem Mapper.Silent.scanline {m : Mapper} (h : m.Silent) : m.scanline.Silent := by
  cases m with
  | target u =>
    obtain ⟨hActive, hEnable⟩ := h u rfl
    rintro _ ⟨⟩
    refine ⟨?_, hEnable⟩
    rw [TargetMapper.scanline, hActive, hEnable, Bool.and_false, Bool.or_false]
  | _ => exact h

theorem Mapper.reset_silent (m : Mapper) : m.reset.Silent := by
  cases m with
  | target u =>
    rintro _ ⟨⟩
    exact ⟨rfl, rfl⟩
  | _ => nofun

theorem ppuClock_silent {s : State} (h : s.cart.mapper.Silent) : (ppuClock s).cart.mapper.Silent := by
  rw [ppuClock_mapper]
  split
  · exact h.scanline
  · exact h

/-- The PPU is where `n` calls of its clock can have led from the start of scanline 0, one more for the odd-frame skip,
with no NMI requested. -/
structure Ppu.NearTop (n : Nat) (p : Ppu) : Prop where
  scanline : p.scanline = 0
  cycle : p.cycle ≤ n + 1
  nmi : p.nmiPending = false

/-- A call of the clock on scanline 0 stays on it and requests no NMI. -/
theorem ppuClock_nearTop {s : State} {n : Nat} (h : s.ppu.NearTop n) (hn : n < 300) :
    (ppuClock s).ppu.NearTop (n + 1) := by
  obtain ⟨hScanline, hCycle, hNmi⟩ := h
  have hPlace := ppuClock_place s
  have hWork : s.ppu.afterSkip.cycle ≤ n + 1 := by
    rcases afterSkip_cycle_cases s.ppu with hSame | ⟨-, hSkip⟩ <;> omega
  have hAdvance : advance s.ppu.afterSkip = { s.ppu.afterSkip with cycle := s.ppu.afterSkip.cycle + 1 } :=
    if_pos (by omega)
  rw [hAdvance] at hPlace
  have hKept := (verticalBlankRisesAndFallsOnce s).2.2 (fun hRise => by omega) (fun hFall => by omega)
  exact ⟨hPlace.scanline.trans hScanline, hPlace.cycle.trans_le (Nat.succ_le_succ hWork), hKept.2.trans hNmi⟩

/-- `t` has the work RAM of `start`, no transfer is in progress, and nothing asks for an interrupt or is about to. -/
structure Calm (start : State) (n : Nat) (t : State) : Prop where
  dma : t.dma.transfer = false
  ram : t.ram = start.ram
  ppu : t.ppu.NearTop n
  mapper : t.cart.mapper.Silent

section
variable {start t : State} {n : Nat}

theorem Calm.ppuClock (h : Calm start n t) (hn : n < 300) : Calm start (n + 1) (ppuClock (t.setSink none)) where
  dma := by
    rw [ppuClock_dma]
    exact h.dma
  ram := by
    rw [ppuClock_frame]
    exact h.ram
  ppu := ppuClock_nearTop (s := t.setSink none) h.ppu hn
  mapper := ppuClock_silent (s := t.setSink none) h.mapper

theorem Calm.setCycles (h : Calm start n t) (c : Byte) : Calm start n (t.setCycles c) := { h with }

/-- The end of a calm tick raises the clock alone. -/
theorem Calm.endTick (h : Calm start n t) : endTick t = t.setClock (t.clock + 1) :=
  endTick_none h.ppu.nmi h.mapper.irqState

end

/-- The counter `k` ticks after a full reset: 8, less the CPU slots at the multiples of 3 below `k`. -/
def slotsLeft (k : Nat) : Byte := BitVec.ofNat 8 (8 - (k + 2) / 3)

/-- A CPU slot of the wait finds the counter above 0 and takes one off. -/
theorem slotsLeft_slot {k : Nat} (hk : k < 24) (hSlot : k % 3 = 0) :
    slotsLeft k ≠ 0 ∧ slotsLeft k - 1 = slotsLeft (k + 1) := by
  have hLeft : 8 - (k + 2) / 3 = 8 - (k + 3) / 3 + 1 := by omega
  unfold slotsLeft
  rw [hLeft]
  constructor <;> bv_omega

theorem slotsLeft_between {k : Nat} (hOff : k % 3 ≠ 0) : slotsLeft k = slotsLeft (k + 1) := by
  have hSame : (k + 2) / 3 = (k + 3) / 3 := by omega
  rw [slotsLeft, hSame]
  rfl

/-- `t` is `k` ticks into the wait that begins in `start`: calm, its CPU that of `start` but for the counter. -/
structure WaitsAt (start : State) (k : Nat) (t : State) : Prop extends Calm start k t where
  clock : t.clock = k
  cpu : t.cpu = { start.cpu with cycles := slotsLeft k }

theorem waitsAt_fullReset (s : State) : WaitsAt (fullReset s) 0 (fullReset s) := by
  rw [fullReset_eq]
  exact ⟨⟨rfl, rfl, ⟨rfl, Nat.zero_le 1, rfl⟩, Mapper.reset_silent _⟩, rfl, rfl⟩

/-- Each step of the wait leads one tick on: in a CPU slot the counter goes down, in other ticks the CPU is not
clocked. -/
theorem WaitsAt.step {start t : State} {k : Nat} (h : WaitsAt start k t) (hk : k < 24) :
    ∃ u : State, step t = .next u ∧ WaitsAt start (k + 1) u := by
  have hCalm := h.toCalm.ppuClock (by omega)
  have hClock : (ppuClock (t.setSink none)).clock = k := (ppuClock_clock _).trans h.clock
  have hCpu := (ppuClock_cpu (t.setSink none)).trans h.cpu
  by_cases hSlot : k % 3 = 0
  · obtain ⟨hBusy, hDown⟩ := slotsLeft_slot hk hSlot
    have hCycles : t.cpu.cycles = slotsLeft k := congrArg Cpu.cycles h.cpu
    refine ⟨_, step_idle h.dma (h.clock.symm ▸ hSlot) (hCycles ▸ hBusy), ?_⟩
    rw [(hCalm.setCycles _).endTick]
    refine { hCalm with clock := congrArg (· + 1) hClock, cpu := ?_ }
    rw [State.setClock_cpu, State.setCycles_cpu, hCpu, ← hDown]
  · refine ⟨_, step_between h.dma (h.clock.symm ▸ hSlot), ?_⟩
    rw [hCalm.endTick]
    refine { hCalm with clock := congrArg (· + 1) hClock, cpu := ?_ }
    rw [State.setClock_cpu, hCpu, slotsLeft_between hSlot]

theorem core_run_waitsAt {start : State} (n : Nat) {k : Nat} {t : State} (h : WaitsAt start k t) (hn : k + n ≤ 24) :
    ∃ u : State, Sys2Proof.core.run n t = .next u ∧ WaitsAt start (k + n) u := by
  induction n generalizing k t with
  | zero => exact ⟨t, rfl, h⟩
  | succ n ih =>
    obtain ⟨u, hStep, hNext⟩ := h.step (by omega)
    obtain ⟨w, hRun, hw⟩ := ih hNext (by omega)
    exact ⟨w, (core_run_succ hStep n).trans hRun, Nat.add_right_comm k n 1 ▸ hw⟩

end Sys2Proof.Machine
end

section
/-! PROOFS. Reset. -/
open Sys2Proof Sys2Proof.Machine

/-- Settles O7: the reset state is one state, with every memory empty, and the invariant is decidable. -/
theorem resetMeetsTheInvariant : Obligations.ResetMeetsTheInvariant := rfl

/-- Settles O38: a full reset is one update of the state, whose values are these. -/
theorem fullResetSetsEveryRegister : Obligations.FullResetSetsEveryRegister := by
  intro s t
  have hMemory : MemoryKept s t := fullReset_memoryKept s
  have hReset : t = _ := fullReset_eq s
  rw [hReset] at hMemory ⊢
  -- In turn: the CPU; the clock and the DMA; the PPU; the cartridge but for its mapper, and what a reset keeps.
  refine ⟨rfl, rfl, rfl, rfl, rfl, rfl, rfl, rfl, rfl, rfl, rfl,
    rfl, rfl,
    rfl, rfl, rfl, rfl, rfl, rfl, rfl, rfl, rfl, rfl, rfl, rfl, rfl, rfl,
    rfl, rfl, rfl, rfl, rfl, rfl, rfl, rfl, rfl, rfl, rfl, rfl, rfl, rfl,
    rfl, rfl, rfl, rfl, rfl, rfl, rfl, rfl,
    hMemory, congrArg Mapper.reset, fun _ => congrArg Mapper.reset, fun _ => congrArg Mapper.reset,
    fun _ => congrArg Mapper.reset, fun _ => congrArg Mapper.reset, fun _ _ => congrArg Mapper.reset⟩

/-- Settles O39: tick by tick through the wait. -/
theorem firstFetchAfterResetIsAtTick24 : Obligations.FirstFetchAfterResetIsAtTick24 := by
  intro s
  obtain ⟨t, hRun, hWait⟩ := core_run_waitsAt 24 (waitsAt_fullReset s) (by decide)
  have hRam : (fullReset s).ram = s.ram := by rw [fullReset_eq]
  exact ⟨t, hRun, hWait.clock, hWait.cpu, hWait.dma, hWait.ram.trans hRam⟩

end

section
/-! SUPPORT. The OAM DMA: what a transfer writes, its actions one by one, and its slots two by two
(`51_bus_clock_dma.md` R485 to R490, `20_memory.md` R89). -/
namespace Sys2Proof.Machine

-- What a transfer writes

/-- `s` with the DMA registers `d`, the sprite memory `m` and the clock `n`: all that a transfer writes. -/
def State.inTransfer (d : Dma) (m : Memory) (n : Nat) (s : State) : State :=
  { s with dma := d, ppu := { s.ppu with oam := m }, clock := n }

theorem cartCpuRead_inTransfer (a : Word) (d : Dma) (m : Memory) (n : Nat) (s : State) :
    cartCpuRead a (s.inTransfer d m n) = ((cartCpuRead a s).1, (cartCpuRead a s).2.inTransfer d m n) := by
  unfold cartCpuRead
  rw [show (s.inTransfer d m n).cart = s.cart from rfl]
  cases cpuMapRead s.cart a with
  | unclaimed => rfl
  | produced b => rfl
  | offset o =>
    dsimp only
    split <;> rfl

/-- Outside the PPU's ports a bus read sees nothing that a transfer writes. -/
theorem memRead_inTransfer {a : Word} (ha : a.toNat < 0x2000 ∨ 0x4000 ≤ a.toNat) (d : Dma) (m : Memory) (n : Nat)
    (s : State) : memRead a (s.inTransfer d m n) = ((memRead a s).1, (memRead a s).2.inTransfer d m n) := by
  unfold memRead
  rw [cartCpuRead_inTransfer]
  generalize cartCpuRead a s = r
  obtain ⟨claimed, u⟩ := r
  cases claimed with
  | some b => rfl
  | none =>
    dsimp only
    unfold fixedRead
    split_ifs with hRam hPorts
    · rfl
    · omega
    all_goals rfl

/-- With no transfer in progress the engine is idle. -/
theorem Dma.idle_of_inv {d : Dma} (h : d.inv = true) (hNone : d.transfer = false) : d.idle = true := by
  simp only [Dma.inv, hNone, Bool.false_or, Bool.and_eq_true] at h
  exact h.1

-- The actions, one by one (R486)

section
variable {s : State}

theorem dmaStep_waiting (hIdle : s.dma.idle = true) (hEven : s.clock % 2 = 0) : dmaStep s = s := by
  rw [dmaStep, if_pos hIdle, if_neg (by omega)]

theorem dmaStep_aligned (hIdle : s.dma.idle = true) (hOdd : s.clock % 2 = 1) :
    dmaStep s = s.setDma { s.dma with idle := false } := by
  rw [dmaStep, if_pos hIdle, if_pos hOdd]

theorem dmaStep_read (hActive : s.dma.idle = false) (hEven : s.clock % 2 = 0) {v : Byte}
    (hRead : memRead (pair s.dma.page s.dma.addr) s = (v, s)) : dmaStep s = s.setDma { s.dma with data := v } := by
  rw [dmaStep, hActive, if_neg Bool.false_ne_true, if_pos hEven, hRead]

theorem dmaStep_write (hActive : s.dma.idle = false) (hOdd : s.clock % 2 = 1) :
    dmaStep s =
      (s.setPpu { s.ppu with oam := s.ppu.oam.write s.dma.addr.toNat s.dma.data }).setDma s.dma.afterWrite := by
  rw [dmaStep, hActive, if_neg Bool.false_ne_true, if_neg (by omega)]

end

theorem dmaSlots_add (i k : Nat) (s : State) : dmaSlots (i + k) s = dmaSlots k (dmaSlots i s) := by
  induction i generalizing s with
  | zero => rw [Nat.zero_add]; rfl
  | succ i ih =>
    rw [Nat.add_right_comm]
    exact ih _

-- The bytes copied

/-- The sprite memory with the first `j` bytes `f` copied into it. -/
def copied (f : Byte → Byte) (m : Memory) : Nat → Memory
  | 0 => m
  | j + 1 => (copied f m j).write j (f (BitVec.ofNat 8 j))

/-- The last byte read when `j` have been, at first the one the register held. -/
def lastRead (f : Byte → Byte) (d : Byte) : Nat → Byte
  | 0 => d
  | j + 1 => f (BitVec.ofNat 8 j)

/-- The DMA registers when `j` bytes have been copied: in progress up to 256, which is the end (R490). -/
def copying (page : Byte) (f : Byte → Byte) (d : Byte) (j : Nat) : Dma :=
  { page := page, addr := BitVec.ofNat 8 j, data := lastRead f d j, idle := decide (j = 256),
    transfer := decide (j ≠ 256) }

theorem copied_wf (f : Byte → Byte) {m : Memory} (h : m.wf = true) (j : Nat) : (copied f m j).wf = true := by
  induction j with
  | zero => exact h
  | succ j ih => exact Memory.wf_write ih _ _

theorem read_copied (f : Byte → Byte) {m : Memory} (h : m.wf = true) {j a : Nat} (ha : a < j) :
    (copied f m j).read a = f (BitVec.ofNat 8 a) := by
  induction j with
  | zero => exact absurd ha (Nat.not_lt_zero a)
  | succ j ih =>
    rw [copied, Memory.read_write (copied_wf f h j)]
    split
    · rename_i hLast
      rw [hLast]
    · exact ih (by omega)

-- The slots, two by two

/-- `s` with `j` bytes of the page copied and the clock at `n`. -/
def State.withCopied (page : Byte) (f : Byte → Byte) (j n : Nat) (s : State) : State :=
  s.inTransfer (copying page f s.dma.data j) (copied f s.ppu.oam j) n

theorem withCopied_frame (page : Byte) (f : Byte → Byte) (j n : Nat) (s : State) : s.withCopied page f j n =
    { s with dma := (s.withCopied page f j n).dma, clock := n,
             ppu := { s.ppu with oam := (s.withCopied page f j n).ppu.oam } } := rfl

/-- The byte of the sprite memory at a place already copied to. -/
theorem byteAt_withCopied_oam (page : Byte) (f : Byte → Byte) {s : State} (h : s.ppu.oam.wf = true) (n : Nat) {j : Nat}
    {k : Byte} (hk : k.toNat < j) : (s.withCopied page f j n).byteAt (.oam k.toNat) = f k := by
  refine (read_copied f h hk).trans ?_
  rw [BitVec.ofNat_toNat, BitVec.setWidth_eq]

theorem byteAt_withCopied_other (page : Byte) (f : Byte → Byte) (j n : Nat) (s : State) {l : Loc}
    (hl : ∀ k : Nat, l ≠ .oam k) : (s.withCopied page f j n).byteAt l = s.byteAt l := by
  cases l with
  | oam k => exact absurd rfl (hl k)
  | _ => rfl

/-- `s` with a transfer armed that has not begun to copy, and the clock at `n`. -/
def State.armed (page : Byte) (n : Nat) (s : State) : State :=
  s.inTransfer { page := page, addr := 0x00, data := s.dma.data, idle := true, transfer := true } s.ppu.oam n

/-- A store to 0x4014 with the engine idle arms a transfer (R89). -/
theorem memWrite_dma {s : State} (hIdle : s.dma.idle = true) (page : Byte) (n : Nat) :
    (memWrite 0x4014 page s).setClock n = s.armed page n := by
  have hArm : memWrite 0x4014 page s = dmaArm page s := memWrite_fixed (by decide) page s
  rw [hArm, dmaArm, State.armed, ← hIdle]
  rfl

/-- The write of a byte steps the cursor, and ends the transfer after the last (R486, R490). -/
theorem copying_afterWrite (page : Byte) (f : Byte → Byte) (d : Byte) {j : Nat} (hj : j < 256) :
    Dma.afterWrite { copying page f d j with data := f (BitVec.ofNat 8 j) } = copying page f d (j + 1) := by
  by_cases hLast : j = 255
  · have hWraps : BitVec.ofNat 8 255 + 1 = 0x00 := by decide
    rw [hLast, Dma.afterWrite, copying, if_pos hWraps]
    rfl
  · have hMore : BitVec.ofNat 8 j + 1 ≠ 0x00 := by bv_omega
    have hNot : j ≠ 256 := by omega
    have hNext : j + 1 ≠ 256 := by omega
    rw [Dma.afterWrite, copying, if_neg hMore, copying, BitVec.ofNat_add, decide_eq_false hNot, decide_eq_true hNot,
      decide_eq_false hNext, decide_eq_true hNext]
    rfl

section
variable {page : Byte} {f : Byte → Byte} {s : State} (hPage : page.toNat < 0x20 ∨ 0x40 ≤ page.toNat)
  (hPure : ∀ k : Byte, memRead (page ++ k) s = (f k, s))
include hPage hPure

/-- The page reads during the transfer as it does before. -/
theorem memRead_page (k : Byte) (d : Dma) (m : Memory) (n : Nat) :
    memRead (pair page k) (s.inTransfer d m n) = (f k, s.inTransfer d m n) := by
  have hk := k.isLt
  have hOutside : (pair page k).toNat < 0x2000 ∨ 0x4000 ≤ (pair page k).toNat := by
    rw [pair_toNat]
    omega
  rw [memRead_inTransfer hOutside, pair, hPure]

/-- Two slots, the first of them even, read a byte and write it. -/
theorem dmaSlots_byte {j n : Nat} (hj : j < 256) (hEven : n % 2 = 0) :
    (dmaSlots 1 (s.withCopied page f j n)).dma.transfer = true ∧
      dmaSlots 2 (s.withCopied page f j n) = s.withCopied page f (j + 1) (n + 6) := by
  have hNot : j ≠ 256 := by omega
  have hActive : (s.withCopied page f j n).dma.idle = false := decide_eq_false hNot
  let held := s.inTransfer { copying page f s.dma.data j with data := f (BitVec.ofNat 8 j) } (copied f s.ppu.oam j)
    (n + 3)
  have hRead : dmaSlots 1 (s.withCopied page f j n) = held := by
    have hByte := memRead_page hPage hPure (BitVec.ofNat 8 j) (copying page f s.dma.data j) (copied f s.ppu.oam j) n
    exact congrArg (State.setClock (n + 3)) (dmaStep_read hActive hEven hByte)
  have hOdd : held.clock % 2 = 1 := by
    change (n + 3) % 2 = 1
    omega
  have hCursor : held.dma.addr.toNat = j := by
    change (BitVec.ofNat 8 j).toNat = j
    rw [BitVec.toNat_ofNat]
    omega
  have hWrite : dmaSlots 1 held = s.withCopied page f (j + 1) (n + 6) := by
    have hStep := congrArg (State.setClock (n + 6)) (dmaStep_write (s := held) hActive hOdd)
    rw [hCursor] at hStep
    exact hStep.trans (congrArg (fun d => s.inTransfer d (copied f s.ppu.oam (j + 1)) (n + 6))
      (copying_afterWrite page f s.dma.data hj))
  refine ⟨?_, ?_⟩
  · rw [hRead]
    exact decide_eq_true hNot
  · rw [dmaSlots_add 1 1, hRead, hWrite]

/-- After `2 * j` slots, the first of them even, `j` bytes have been copied. -/
theorem dmaSlots_bytes {n : Nat} (hEven : n % 2 = 0) {j : Nat} (hj : j ≤ 256) :
    dmaSlots (2 * j) (s.withCopied page f 0 n) = s.withCopied page f j (n + 6 * j) := by
  induction j with
  | zero => rfl
  | succ j ih => rw [Nat.mul_succ, dmaSlots_add, ih (by omega), (dmaSlots_byte hPage hPure hj (by omega)).2]; rfl

/-- The transfer is in progress up to the last of its 512 slots. -/
theorem dmaSlots_inProgress {n : Nat} (hEven : n % 2 = 0) {k : Nat} (hk : k < 512) :
    (dmaSlots k (s.withCopied page f 0 n)).dma.transfer = true := by
  have hj : k / 2 < 256 := by omega
  rw [← Nat.div_add_mod k 2, dmaSlots_add, dmaSlots_bytes hPage hPure hEven hj.le]
  rcases Nat.mod_two_eq_zero_or_one k with hFirst | hSecond
  · rw [hFirst]
    exact decide_eq_true (by omega)
  · rw [hSecond]
    exact (dmaSlots_byte hPage hPure hj (by omega)).1

end

/-- An armed transfer waits until an odd slot has passed (R486): one slot, or two when the first is even. -/
theorem dmaSlots_align (page : Byte) (f : Byte → Byte) (s : State) (n : Nat) :
    (∀ k : Nat, k < 2 - n % 2 → (dmaSlots k (s.armed page n)).dma.transfer = true) ∧
      dmaSlots (2 - n % 2) (s.armed page n) = s.withCopied page f 0 (n + 3 * (2 - n % 2)) := by
  have hOddSlot {i : Nat} (h : i % 2 = 1) : dmaSlots 1 (s.armed page i) = s.withCopied page f 0 (i + 3) :=
    congrArg (State.setClock (i + 3)) (dmaStep_aligned (s := s.armed page i) rfl h)
  rcases Nat.mod_two_eq_zero_or_one n with hEven | hOdd
  · have hWait : dmaSlots 1 (s.armed page n) = s.armed page (n + 3) :=
      congrArg (State.setClock (n + 3)) (dmaStep_waiting (s := s.armed page n) rfl hEven)
    rw [hEven]
    refine ⟨fun k hk => ?_, ?_⟩
    · interval_cases k
      · rfl
      · rw [hWait]
        rfl
    · exact (dmaSlots_add 1 1 _).trans ((congrArg (dmaSlots 1) hWait).trans (hOddSlot (by omega)))
  · rw [hOdd]
    refine ⟨fun k hk => ?_, hOddSlot hOdd⟩
    interval_cases k
    rfl

end Sys2Proof.Machine
end

section
/-! PROOFS. OAM DMA. -/
open Sys2Proof Sys2Proof.Machine

/-- Settles O45: the slots that align the transfer, then two for each byte. -/
theorem dmaCopiesAPageToOam : Obligations.DmaCopiesAPageToOam := by
  intro page f s hs hNone hPage hPure armed n t
  obtain ⟨-, hOut⟩ := s.inv_iff.mp hs
  have hIdle : s.dma.idle = true := Dma.idle_of_inv hOut.dma hNone
  have hArmed : armed = s.armed page (s.clock + 3) := memWrite_dma hIdle page _
  obtain ⟨hWaiting, hAligned⟩ := dmaSlots_align page f s (s.clock + 3)
  rw [← hArmed] at hWaiting hAligned
  have hEven : (s.clock + 3 + 3 * (2 - (s.clock + 3) % 2)) % 2 = 0 := by omega
  have hSlots : n = 2 - (s.clock + 3) % 2 + 2 * 256 := by
    dsimp only [n]
    split <;> omega
  have hDone : t = s.withCopied page f 256 (s.clock + 3 * (n + 1)) := by
    have hClock : s.clock + 3 * (n + 1) = s.clock + 3 + 3 * (2 - (s.clock + 3) % 2) + 6 * 256 := by omega
    rw [hClock, ← dmaSlots_bytes hPage hPure hEven le_rfl, ← hAligned, ← dmaSlots_add, ← hSlots]
  refine ⟨fun k hk => ?_, ?_, fun k => ?_, fun l hl => ?_, ?_⟩
  · by_cases hBefore : k < 2 - (s.clock + 3) % 2
    · exact hWaiting k hBefore
    · obtain ⟨i, rfl⟩ := Nat.exists_eq_add_of_le (Nat.le_of_not_lt hBefore)
      rw [dmaSlots_add, hAligned]
      exact dmaSlots_inProgress hPage hPure hEven (by omega)
  · rw [hDone]
    rfl
  · rw [hDone]
    exact byteAt_withCopied_oam page f hOut.ppu.oam.1 _ k.isLt
  · rw [hDone]
    exact byteAt_withCopied_other page f _ _ s hl
  · rw [hDone]
    exact withCopied_frame page f _ _ s

end
